-- ==== Sys2Proof/Word.lean ====
section
/-!
DEFINITION. The words of the Tulmir 2418: bytes, identifiers, the indexes of its ports, domains, rows, groups, lines
and timers, and a table of a fixed number of like things (`Tab`).
-/

namespace Sys2Proof

/-- A data byte of a frame. -/
abbrev Byte := BitVec 8

/-- An 11-bit CAN identifier, 0x000 to 0x7FF (00_scope.md, Conventions). -/
abbrev Ident := BitVec 11

/-- A port by its port code: 0 is B, 1 to 6 are S0 to S5 (R1, R174). -/
abbrev Port := Fin 7

/-- The backbone port B. -/
abbrev Port.B : Port := 0

/-- A domain, D0 to D11 (R73). -/
abbrev Domain := Fin 12

/-- The central body controller, attached to B (R1). -/
abbrev Domain.D0 : Domain := 0

/-- A row of the Rule Table (R25). -/
abbrev RowIx := Fin 128

/-- A coincidence group, G0 to G7 (R45). -/
abbrev GroupIx := Fin 8

/-- A discrete wake line (R56). -/
abbrev LineIx := Fin 16

/-- A park timer (R64). -/
abbrev TimerIx := Fin 8

/-- A wake class, 0 the most urgent (00_scope.md, Terms). -/
abbrev WakeClass := Fin 4

/-- A set of ports; bit n stands for the port of code n (R174). -/
abbrev PortSet := BitVec 7

/-- A set of domains; bit n stands for Dn (R174). -/
abbrev DomainSet := BitVec 12

/-- A table of exactly `n` like things, indexed from 0. -/
structure Tab (α : Type) (n : Nat) where
  items   : List α
  size_eq : items.length = n
  deriving DecidableEq, Repr

namespace Tab

variable {α β : Type} {n : Nat}

/-- The entry at index `i`. -/
def get (t : Tab α n) (i : Fin n) : α := t.items[i.val]'(by rw [t.size_eq]; exact i.isLt)

/-- The table with `x` at index `i`. -/
def set (t : Tab α n) (i : Fin n) (x : α) : Tab α n :=
  ⟨t.items.set i.val x, by rw [List.length_set]; exact t.size_eq⟩

/-- The table with `f` applied to the entry at index `i`. -/
def modify (t : Tab α n) (i : Fin n) (f : α → α) : Tab α n := t.set i (f (t.get i))

/-- The table with `f` applied to every entry. -/
def map (f : α → β) (t : Tab α n) : Tab β n :=
  ⟨t.items.map f, by rw [List.length_map]; exact t.size_eq⟩

/-- The table whose entry at index `i` is `f i`. -/
def ofFn (f : Fin n → α) : Tab α n := ⟨List.ofFn f, List.length_ofFn⟩

/-- The table whose entries are all `x`. -/
def replicate (n : Nat) (x : α) : Tab α n := ⟨List.replicate n x, List.length_replicate⟩

end Tab

end Sys2Proof
end

