-- ==== Sys2Proof/Syntax.lean ====
section
/-!
DEFINITION. The commands of the part: one constructor for each row of spec/opcode_table.json.

A management request carries the tag and the argument bytes of its frame, that is the bytes after byte 1 of the data
field, as many as the frame holds (R163, R175); the command stands for the whole event in which port B takes that frame
off the backbone at the request identifier (R162). Every other command is an event of a port, a line, a timer or a
block, with what the event brings from outside.
-/

namespace Sys2Proof

/-- A frame as it is taken off a bus, free of errors (R3). `data` is a classical data frame with an 11-bit identifier,
its 4-bit length code and its data bytes; the other three are the formats the part counts as unsupported. -/
inductive BusFrame where
  | data (ident : Ident) (lengthCode : BitVec 4) (bytes : List Byte)
  | remote (ident : Ident)
  | extended (ident : BitVec 29)
  | extendedRemote (ident : BitVec 29)
  deriving DecidableEq, Repr

/-- How a transmission attempt ends (R14). -/
inductive TxOutcome where
  | success
  | lostArbitration
  | failure
  deriving DecidableEq, Repr

/-- The commands. -/
inductive Instr where
  | powerOnReset (strap : BitVec 3)
  | resetDeadlineExpiry
  | frameTaken (port : Port) (frame : BusFrame)
  | unknownRequest (data : List Byte)
  | identify (tag : Byte) (args : List Byte)
  | readStatus (tag : Byte) (args : List Byte)
  | setClock (tag : Byte) (args : List Byte)
  | injectFrame (tag : Byte) (args : List Byte)
  | resetPrepare (tag : Byte) (args : List Byte)
  | reset (tag : Byte) (args : List Byte)
  | parkEnter (tag : Byte) (args : List Byte)
  | parkExit (tag : Byte) (args : List Byte)
  | tableWriteEnable (tag : Byte) (args : List Byte)
  | tableWriteDisable (tag : Byte) (args : List Byte)
  | stageRowMatch (tag : Byte) (args : List Byte)
  | stageRowDataTest (tag : Byte) (args : List Byte)
  | stageRowAction (tag : Byte) (args : List Byte)
  | stageRowWakeSet (tag : Byte) (args : List Byte)
  | stageGroup (tag : Byte) (args : List Byte)
  | commitTable (tag : Byte) (args : List Byte)
  | commitCompletion
  | readRowPart (tag : Byte) (args : List Byte)
  | readHits (tag : Byte) (args : List Byte)
  | setProtectBoundary (tag : Byte) (args : List Byte)
  | setDomainParameter (tag : Byte) (args : List Byte)
  | readDomain (tag : Byte) (args : List Byte)
  | domainWake (tag : Byte) (args : List Byte)
  | domainSleep (tag : Byte) (args : List Byte)
  | domainClearFault (tag : Byte) (args : List Byte)
  | setSlots (tag : Byte) (args : List Byte)
  | setBudget (tag : Byte) (args : List Byte)
  | readAccount (tag : Byte) (args : List Byte)
  | takeCauses (tag : Byte) (args : List Byte)
  | setCaptureMode (tag : Byte) (args : List Byte)
  | readCaptureDescriptor (tag : Byte) (args : List Byte)
  | readCaptureFrame (tag : Byte) (args : List Byte)
  | releaseCapture (tag : Byte) (args : List Byte)
  | configureLine (tag : Byte) (args : List Byte)
  | readLines (tag : Byte) (args : List Byte)
  | configureTimer (tag : Byte) (args : List Byte)
  | startTimer (tag : Byte) (args : List Byte)
  | stopTimer (tag : Byte) (args : List Byte)
  | readPortStatus (tag : Byte) (args : List Byte)
  | matchGrant
  | evaluationCompletion
  | slotGrant
  | readyTimerExpiry (domain : Domain)
  | holdExpiry (domain : Domain)
  | idleExpiry (domain : Domain)
  | minAwakeElapse (domain : Domain)
  | windExpiry (domain : Domain)
  | transmissionStart (port : Port)
  | transmissionEnd (port : Port) (outcome : TxOutcome)
  | recoveryTimerExpiry (port : Port)
  | replayStart (port : Port)
  | bufferFree
  | contributionExpiry (group : GroupIx) (taken : Nat)
  | lineSample (levels : BitVec 16)
  | parkSecond
  | refillExpiry (domain : Domain)
  | timerExpiry (timer : TimerIx)
  deriving DecidableEq, Repr

end Sys2Proof
end

