-- ==== Sys2Proof/Decode.lean ====
section
/-!
DEFINITION. Request frames read as commands, commands written as request frames, and the words of the opcode table.
-/

namespace Sys2Proof

/-- The command that a request frame with these data bytes stands for: byte 0 is the request code, byte 1 the tag and
the rest the arguments. A frame too short for its tag, or whose code is no request code of the part, is an
UNKNOWN_REQUEST (R163, R175). -/
def decodeRequest (data : List Byte) : Instr :=
  match data with
  | code :: tag :: args =>
    match code.toNat with
    | 0x01 => .identify tag args
    | 0x02 => .readStatus tag args
    | 0x03 => .setClock tag args
    | 0x04 => .parkEnter tag args
    | 0x05 => .parkExit tag args
    | 0x08 => .tableWriteEnable tag args
    | 0x09 => .tableWriteDisable tag args
    | 0x0A => .stageRowMatch tag args
    | 0x0B => .stageRowDataTest tag args
    | 0x0C => .stageRowAction tag args
    | 0x0D => .stageRowWakeSet tag args
    | 0x0E => .stageGroup tag args
    | 0x0F => .commitTable tag args
    | 0x10 => .readRowPart tag args
    | 0x11 => .readHits tag args
    | 0x12 => .setProtectBoundary tag args
    | 0x18 => .setDomainParameter tag args
    | 0x19 => .readDomain tag args
    | 0x1A => .domainWake tag args
    | 0x1B => .domainSleep tag args
    | 0x1C => .domainClearFault tag args
    | 0x1D => .setSlots tag args
    | 0x20 => .setBudget tag args
    | 0x21 => .readAccount tag args
    | 0x22 => .takeCauses tag args
    | 0x28 => .setCaptureMode tag args
    | 0x29 => .readCaptureDescriptor tag args
    | 0x2A => .releaseCapture tag args
    | 0x2B => .readCaptureFrame tag args
    | 0x30 => .configureLine tag args
    | 0x31 => .readLines tag args
    | 0x32 => .configureTimer tag args
    | 0x33 => .startTimer tag args
    | 0x34 => .stopTimer tag args
    | 0x38 => .injectFrame tag args
    | 0x39 => .readPortStatus tag args
    | 0x3E => .resetPrepare tag args
    | 0x3F => .reset tag args
    | _ => .unknownRequest data
  | _ => .unknownRequest data

/-- The data bytes of the request frame that a management command stands for (R175); no other command has any. -/
def requestBytes (i : Instr) : Option (List Byte) :=
  match i with
  | .unknownRequest data => some data
  | .identify tag args => some (0x01 :: tag :: args)
  | .readStatus tag args => some (0x02 :: tag :: args)
  | .setClock tag args => some (0x03 :: tag :: args)
  | .parkEnter tag args => some (0x04 :: tag :: args)
  | .parkExit tag args => some (0x05 :: tag :: args)
  | .tableWriteEnable tag args => some (0x08 :: tag :: args)
  | .tableWriteDisable tag args => some (0x09 :: tag :: args)
  | .stageRowMatch tag args => some (0x0A :: tag :: args)
  | .stageRowDataTest tag args => some (0x0B :: tag :: args)
  | .stageRowAction tag args => some (0x0C :: tag :: args)
  | .stageRowWakeSet tag args => some (0x0D :: tag :: args)
  | .stageGroup tag args => some (0x0E :: tag :: args)
  | .commitTable tag args => some (0x0F :: tag :: args)
  | .readRowPart tag args => some (0x10 :: tag :: args)
  | .readHits tag args => some (0x11 :: tag :: args)
  | .setProtectBoundary tag args => some (0x12 :: tag :: args)
  | .setDomainParameter tag args => some (0x18 :: tag :: args)
  | .readDomain tag args => some (0x19 :: tag :: args)
  | .domainWake tag args => some (0x1A :: tag :: args)
  | .domainSleep tag args => some (0x1B :: tag :: args)
  | .domainClearFault tag args => some (0x1C :: tag :: args)
  | .setSlots tag args => some (0x1D :: tag :: args)
  | .setBudget tag args => some (0x20 :: tag :: args)
  | .readAccount tag args => some (0x21 :: tag :: args)
  | .takeCauses tag args => some (0x22 :: tag :: args)
  | .setCaptureMode tag args => some (0x28 :: tag :: args)
  | .readCaptureDescriptor tag args => some (0x29 :: tag :: args)
  | .releaseCapture tag args => some (0x2A :: tag :: args)
  | .readCaptureFrame tag args => some (0x2B :: tag :: args)
  | .configureLine tag args => some (0x30 :: tag :: args)
  | .readLines tag args => some (0x31 :: tag :: args)
  | .configureTimer tag args => some (0x32 :: tag :: args)
  | .startTimer tag args => some (0x33 :: tag :: args)
  | .stopTimer tag args => some (0x34 :: tag :: args)
  | .injectFrame tag args => some (0x38 :: tag :: args)
  | .readPortStatus tag args => some (0x39 :: tag :: args)
  | .resetPrepare tag args => some (0x3E :: tag :: args)
  | .reset tag args => some (0x3F :: tag :: args)
  | .powerOnReset _ => none
  | .resetDeadlineExpiry => none
  | .frameTaken _ _ => none
  | .commitCompletion => none
  | .matchGrant => none
  | .evaluationCompletion => none
  | .slotGrant => none
  | .readyTimerExpiry _ => none
  | .holdExpiry _ => none
  | .idleExpiry _ => none
  | .minAwakeElapse _ => none
  | .windExpiry _ => none
  | .transmissionStart _ => none
  | .transmissionEnd _ _ => none
  | .recoveryTimerExpiry _ => none
  | .replayStart _ => none
  | .bufferFree => none
  | .contributionExpiry _ _ => none
  | .lineSample _ => none
  | .parkSecond => none
  | .refillExpiry _ => none
  | .timerExpiry _ => none

/-- The command that a word spells by the bits of spec/opcode_table.json. The table gives no row any bits, so no word
spells a command (assumption log 3). -/
def decodeTableWord (_nbits _w : Nat) : Option Instr := none

end Sys2Proof
end

