-- ==== Sys2Proof/Config.lean ====
section
/-!
DEFINITION. The sizes the manual fixes for the part, and the values it leaves open, which stand here without a body.
-/

namespace Sys2Proof.Config

/-- Records a port's receive FIFO holds (R9). -/
abbrev receiveFifo : Nat := 16

/-- Frame entries a forward queue holds (R10). -/
abbrev forwardQueue : Nat := 24

/-- Records the line event queue holds (R60). -/
abbrev lineQueue : Nat := 16

/-- Records the timer event queue holds (R71). -/
abbrev timerQueue : Nat := 8

/-- Records the injection queue holds (R170). -/
abbrev injectionQueue : Nat := 4

/-- Records the Cause Queue holds (R139). -/
abbrev causeQueue : Nat := 32

/-- Consecutive failures that make a port BLOCKED (R15). -/
abbrev failureLimit : Nat := 8

/-- Milliseconds of the recovery timer of a BLOCKED port (R15). -/
abbrev recoveryTime : Nat := 1000

/-- Milliseconds of the reset deadline (R172). -/
abbrev resetDeadline : Nat := 250

/-- Milliseconds between park seconds (R166). -/
abbrev parkSecond : Nat := 1000

/-- The largest value of a 16-bit counter that stops at its end (R17, R35, R75, R142, R143). -/
abbrev counterMax : Nat := 65535

/-- The largest value of an 8-bit counter that stops at its end (R71, R139). -/
abbrev byteMax : Nat := 255

/-- The largest value of the charge accumulator A (R124). -/
abbrev chargeMax : Nat := 2 ^ 48 - 1

/-- Microampere-seconds in a milliampere-hour (R120). -/
abbrev chargePerMah : Nat := 3600000

/-- The part number that Identify reports (R167). -/
abbrev partNumber : Nat := 2418

/-- The design revision of the part this manual describes (R167). -/
abbrev designRevision : Nat := 1

/-- FREE VALUE (assumption log 8). Whether the trigger index of an untriggered buffer is sent as the byte of an absent
value (0xFF) or as the bits of a field that does not apply (0): R174 states both conventions and does not say which of
them this byte follows. -/
opaque absentTriggerIndexIsFF : Bool

/-- FREE VALUE (assumption log 9). Which refusal answers a Read Row Part that names both a copy that does not exist and
an index or part that does not: R43 states INDEX for the one and VALUE for the other, and no order of the checks. -/
opaque rowReadIndexFirst : Bool

/-- FREE VALUE (assumption log 9). Which refusal answers a Domain Wake that names both a domain above D11 and a class
above 3: R94 states INDEX for the one and VALUE for the other, and no order of the checks. -/
opaque domainWakeIndexFirst : Bool

end Sys2Proof.Config
end

