-- ==== Sys2Proof/Machine/State.lean ====
section
/-!
DEFINITION. The state of the Tulmir 2418, block by block as 00_scope.md outlines it, and the state after power-on reset.
-/

namespace Sys2Proof.Machine

/-! ### Modes, states and named values -/

/-- The part mode (R111). -/
inductive Mode where
  | run
  | park
  deriving DecidableEq, Repr

/-- The service tier (R125). -/
inductive Tier where
  | normal
  | reduced
  | critical
  | exhausted
  deriving DecidableEq, Repr

/-- The state of a domain (R77). -/
inductive DomainState where
  | asleep
  | queued
  | powering
  | awake
  | winding
  | fault
  deriving DecidableEq, Repr

/-- The ready mode parameter of a domain (R73). -/
inductive ReadyMode where
  | timed
  | announce
  deriving DecidableEq, Repr

/-- Why a domain goes to WINDING (R88). -/
inductive SleepReason where
  | idle
  | mgmt
  | shed
  deriving DecidableEq, Repr

/-- The notice field of a domain (R75). -/
inductive NoticeField where
  | none
  | sleepQueued
  | sleepSent
  | cancelQueued
  | withdrawingSleep
  | withdrawingCancel
  deriving DecidableEq, Repr

/-- What a notice entry says: a sleep notice with its reason, or a cancel notice (R10). -/
inductive NoticeKind where
  | sleep (reason : SleepReason)
  | cancel
  deriving DecidableEq, Repr

/-- The idle timer of a domain (R75, R84). A running count of 0 is one whose expiry is due (assumption log 6). -/
inductive IdleTimer where
  | stopped
  | expired
  | running (remaining : Nat)
  deriving DecidableEq, Repr

/-- The role of a wake line (R56). -/
inductive LineRole where
  | unused
  | wake
  | ignition
  deriving DecidableEq, Repr

/-- The edge selection of a wake line (R56). -/
inductive EdgeSelect where
  | rising
  | falling
  | both
  deriving DecidableEq, Repr

/-- The mode of a park timer (R64). -/
inductive TimerMode where
  | oneShot
  | periodic
  deriving DecidableEq, Repr

/-- The modes field of a row (R25). -/
inductive RowModes where
  | run
  | park
  | both
  deriving DecidableEq, Repr

/-- The phase of a slot holder; a hold carries the milliseconds that remain of it (R102). -/
inductive HoldPhase where
  | powering
  | hold (remaining : Nat)
  deriving DecidableEq, Repr

/-- The state of a capture buffer (R144). -/
inductive BufferState where
  | free
  | opened
  | post
  | closed
  | done
  deriving DecidableEq, Repr

/-- The cause of a wake decision: its kind, with the row or the group that is its index (R138). -/
inductive Cause where
  | rule (row : RowIx)
  | group (group : GroupIx)
  | mgmt
  | exit
  | reset
  | ready
  | budget
  deriving DecidableEq, Repr

/-- What triggered a capture buffer: a row, a group, or a Domain Wake (R143). -/
inductive Trigger where
  | rule (row : RowIx)
  | group (group : GroupIx)
  | mgmt
  deriving DecidableEq, Repr

/-- The outcome that a cause record carries (R138, R177). -/
inductive WakeOutcome where
  | admitted
  | merged
  | refusedDisabled
  | refusedFault
  | refusedTier
  | refusedQuota
  | refusedBudget
  | shed
  | failed
  deriving DecidableEq, Repr

/-- Where a frame record comes from (R2). -/
inductive Source where
  | port (p : Port)
  | line
  | timer
  deriving DecidableEq, Repr

/-! ### Frame records, forward entries and ports -/

/-- The frame record (R2). Its length is the length of `data`. -/
structure FrameRecord where
  source      : Source
  ident       : Ident
  data        : List Byte
  arrival     : BitVec 32
  overrunMark : Bool
  injected    : Bool
  deriving DecidableEq, Repr

/-- An entry of a forward queue (R10). `resetResponse` marks the response of an accepted Reset, whose transmission
brings about the management reset (R172). A notice entry keeps the notice identifier it was created with (R88). -/
inductive FwdEntry where
  | frame (ident : Ident) (data : List Byte) (resetResponse : Bool)
  | notice (domain : Domain) (ident : Ident) (kind : NoticeKind)
  deriving DecidableEq, Repr

/-- What an attempt sends: the oldest entry of the forward queue, or the frame in a slot of a capture buffer (R13). -/
inductive Sending where
  | queueHead
  | replay (buffer : Nat) (slot : Nat)
  deriving DecidableEq, Repr

/-- A transmission attempt in progress. `detached` is set when the port leaves ACTIVE while the attempt runs (R8), and
`removal` when the removal of the notice entry in transmission has been asked for (R12). -/
structure Attempt where
  sending  : Sending
  detached : Bool
  removal  : Bool
  deriving DecidableEq, Repr

/-- A Port Unit (00_scope.md; R5, R9, R10, R14, R15, R17, R18, R149, R152). `active` is the port state held, ACTIVE or
LISTEN; `replay` is the buffer whose replay is in flight; `abortDue` says that its abort waits for the end of the
attempt in progress. -/
structure PortUnit where
  active          : Bool
  blocked         : Bool
  recovery        : Option Nat
  failures        : Nat
  rx              : List FrameRecord
  fwd             : List FwdEntry
  attempt         : Option Attempt
  replay          : Option Nat
  abortDue        : Bool
  received        : Nat
  unmatched       : Nat
  unsupported     : Nat
  overrun         : Nat
  forwardDrop     : Nat
  forwardSkipped  : Nat
  transmitFailure : Nat
  overrunSeen     : Bool
  failureSeen     : Bool
  blockedSeen     : Bool
  unsupportedSeen : Bool
  deriving DecidableEq, Repr

/-! ### The Rule Table, the Match Engine and the coincidence groups -/

/-- The data test of a row (R28). -/
structure DataTest where
  index : Fin 8
  value : Byte
  mask  : Byte
  deriving DecidableEq, Repr

/-- A row of the Rule Table, without its hit count (R25). Bits 0 to 6 of `sources` stand for the ports by port code,
bit 7 for L and bit 8 for T. -/
structure Row where
  valid   : Bool
  sources : BitVec 9
  ident   : Ident
  mask    : Ident
  test    : Option DataTest
  modes   : RowModes
  forward : PortSet
  wake    : DomainSet
  cls     : WakeClass
  veto    : Bool
  group   : Option GroupIx
  record  : Bool
  deriving DecidableEq, Repr

/-- The definition of a coincidence group (R45). -/
structure GroupDef where
  enabled   : Bool
  threshold : Nat
  window    : Nat
  cls       : WakeClass
  wake      : DomainSet
  deriving DecidableEq, Repr

/-- The rows and the group definitions of one copy of the table (R25, R45). -/
structure Table where
  rows   : Tab Row 128
  groups : Tab GroupDef 8
  deriving DecidableEq, Repr

/-- The Match Engine (R23, R25, section 2.5). `inFlight` is the record of the match evaluation in flight. -/
structure Engine where
  active        : Table
  staging       : Table
  hits          : Tab Nat 128
  latch         : Bool
  commitPending : Bool
  boundary      : Nat
  inFlight      : Option FrameRecord
  deriving DecidableEq, Repr

/-- An entry of a contribution list (R48). -/
structure Contribution where
  row   : RowIx
  taken : Nat
  deriving DecidableEq, Repr

/-! ### Lines and timers -/

/-- The record of a wake line (R56). `level` is the accepted level, absent while UNKNOWN. -/
structure LineRec where
  role     : LineRole
  edge     : EdgeSelect
  level    : Option Bool
  previous : Option Bool
  change   : Bool
  overrun  : Bool
  deriving DecidableEq, Repr

/-- The Line Unit (R56, R57, R60). `sampleLeft` is what remains of the running sample interval, in milliseconds. -/
structure LineUnit where
  lines      : Tab LineRec 16
  period     : Nat
  sampleLeft : Nat
  queue      : List FrameRecord
  deriving DecidableEq, Repr

/-- The record of a park timer (R64). A running timer at 0 is one whose expiry is due (assumption log 6). -/
structure TimerRec where
  mode      : TimerMode
  preload   : Nat
  remaining : Nat
  running   : Bool
  thinning  : Bool
  expiries  : BitVec 8
  lost      : Nat
  deriving DecidableEq, Repr

/-- The Timer Unit (R64, R71). -/
structure TimerUnit where
  timers : Tab TimerRec 8
  queue  : List FrameRecord
  deriving DecidableEq, Repr

/-! ### Domains, slots, account -/

/-- The parameters of a domain (R73). -/
structure DomainParams where
  enabled      : Bool
  port         : Port
  readyMode    : ReadyMode
  awakeCurrent : Nat
  sleepCurrent : Nat
  rampCharge   : Nat
  minAwake     : Nat
  idleTimeout  : Nat
  readyTimeout : Nat
  readyRetries : Nat
  windTimeout  : Nat
  slotHold     : Nat
  announceId   : Option Ident
  faultId      : Option Ident
  noticeId     : Option Ident
  sleepReadyId : Option Ident
  activity     : Option (Ident × Ident)
  tokenCap     : Nat
  refill       : Nat
  deriving DecidableEq, Repr

/-- A domain record: its parameters (R73), its runtime fields (R75) and the level of its enable line (R77). A ready or
wind timer is absent while stopped; the min-awake timer is absent while elapsed, and at 0 its elapse is due (assumption
log 6). -/
structure DomainRec where
  params        : DomainParams
  state         : DomainState
  enable        : Bool
  wakeClass     : Option WakeClass
  retriesUsed   : Nat
  slotHeld      : Bool
  readyTimer    : Option Nat
  minAwakeTimer : Option Nat
  idleTimer     : IdleTimer
  windTimer     : Option Nat
  notice        : NoticeField
  sleepReason   : Option SleepReason
  forcedSleep   : Nat
  faults        : Nat
  ignored       : Nat
  deriving DecidableEq, Repr

/-- An entry of the slot wait queue (R102). -/
structure WaitEntry where
  domain : Domain
  cls    : WakeClass
  join   : Nat
  deriving DecidableEq, Repr

/-- The Slot Arbiter (R102): the slot count K, the holder record of each domain that holds a slot, the wait queue head
first, and the join order the next join takes. -/
structure SlotArbiter where
  count    : Nat
  holders  : Tab (Option HoldPhase) 12
  queue    : List WaitEntry
  nextJoin : Nat
  deriving DecidableEq, Repr

/-- The token state of a domain (R120). A countdown is absent while stopped, and at 0 its expiry is due (assumption
log 6). -/
structure TokenRec where
  tokens    : Nat
  countdown : Option Nat
  deriving DecidableEq, Repr

/-- The Charge Account (R120). -/
structure Account where
  budget   : Nat
  upper    : Nat
  lower    : Nat
  baseDraw : Nat
  spent    : Nat
  tier     : Tier
  tokens   : Tab TokenRec 12
  deriving DecidableEq, Repr

/-! ### Capture Store and Cause Queue -/

/-- A frame kept in a frame slot (R143). -/
structure StoredFrame where
  record    : FrameRecord
  forward   : PortSet
  delivered : PortSet
  deriving DecidableEq, Repr

/-- A capture buffer: its descriptor (R143) and its frame slots. Slot k of the buffer is element k of `slots`; a slot at
or above the length of `slots` holds nothing, and the frame count is that length. -/
structure Buffer where
  state       : BufferState
  slots       : List StoredFrame
  stop        : Option Nat
  wrapped     : Bool
  postLeft    : Nat
  pending     : PortSet
  woken       : DomainSet
  trigger     : Option Trigger
  closeSecond : BitVec 32
  epoch       : BitVec 16
  skipped     : Nat
  deriving DecidableEq, Repr

/-- The Capture Store (R142). -/
structure CaptureStore where
  mode     : Fin 4
  post     : Nat
  writePtr : Nat
  readPtr  : Nat
  loss     : Nat
  buffers  : List Buffer
  deriving DecidableEq, Repr

/-- A cause record (R138). -/
structure CauseRecord where
  second  : BitVec 32
  domain  : Domain
  cause   : Cause
  cls     : WakeClass
  outcome : WakeOutcome
  buffer  : Option Nat
  deriving DecidableEq, Repr

/-- The Cause Queue (R139), oldest record first. -/
structure CauseQueue where
  records  : List CauseRecord
  overflow : Nat
  deriving DecidableEq, Repr

/-! ### Management Unit and the whole state -/

/-- The Management Unit (R111, R161, R166, R171, R172) with the injection queue of input I (R170). `secondLeft` is what
remains, in milliseconds, until the next park second falls. -/
structure Management where
  strap         : BitVec 3
  mode          : Mode
  epoch         : BitVec 16
  clock         : BitVec 32
  secondLeft    : Nat
  prepared      : Bool
  resetPending  : Bool
  resetDeadline : Option Nat
  injection     : List FrameRecord
  deriving DecidableEq, Repr

/-- The state of the part: its blocks, the 1 millisecond time base, and the commands that wait, first in, first out.
`pointer` is the round-robin pointer of the Match Arbiter over the inputs B, S0 to S5, L, T, I, numbered 0 to 9 (R21);
`contributions` holds the contribution list of each group, oldest first (R48). -/
structure State where
  management    : Management
  ports         : Tab PortUnit 7
  pointer       : Fin 10
  engine        : Engine
  contributions : Tab (List Contribution) 8
  lineUnit      : LineUnit
  timerUnit     : TimerUnit
  domains       : Tab DomainRec 12
  slots         : SlotArbiter
  account       : Account
  capture       : CaptureStore
  causes        : CauseQueue
  timeBase      : Nat
  pending       : List Instr
  deriving DecidableEq, Repr

/-- The faults of a command. The manual describes no event that stops the part, so no command raises one: the type has
no constructor. Safe: it stops nothing. -/
inductive Fault where
  deriving DecidableEq, Repr

/-- The refusals of a command. -/
inductive Refusal where
  /-- Raised by `exec` alone, for a command that has no meaning yet; no arm raises it. Safe: it stops the run where the
  part goes on. -/
  | notModelled (mnemonic : String)
  deriving DecidableEq, Repr

/-! ### Values after reset -/

/-- A Port Unit after reset, LISTEN (R20). -/
def PortUnit.atReset : PortUnit where
  active := false
  blocked := false
  recovery := none
  failures := 0
  rx := []
  fwd := []
  attempt := none
  replay := none
  abortDue := false
  received := 0
  unmatched := 0
  unsupported := 0
  overrun := 0
  forwardDrop := 0
  forwardSkipped := 0
  transmitFailure := 0
  overrunSeen := false
  failureSeen := false
  blockedSeen := false
  unsupportedSeen := false

/-- Row 1 to row 127 of the default table (R44). -/
def Row.atReset : Row where
  valid := false
  sources := 0
  ident := 0
  mask := 0x7FF
  test := none
  modes := .both
  forward := 0
  wake := 0
  cls := 0
  veto := false
  group := none
  record := false

/-- Row 0 of the default table: every port and L wake D0 (R44). -/
def Row.defaultRow0 : Row :=
  { Row.atReset with valid := true, sources := 0x0FF, mask := 0x000, wake := 0x001 }

/-- A group definition after reset (R45). -/
def GroupDef.atReset : GroupDef where
  enabled := false
  threshold := 1
  window := 1000
  cls := 3
  wake := 0

/-- The default table (R44). -/
def Table.atReset : Table where
  rows := (Tab.replicate 128 Row.atReset).set 0 Row.defaultRow0
  groups := Tab.replicate 8 GroupDef.atReset

/-- The Match Engine after reset (R22, R44). -/
def Engine.atReset : Engine where
  active := Table.atReset
  staging := Table.atReset
  hits := Tab.replicate 128 0
  latch := false
  commitPending := false
  boundary := 0
  inFlight := none

/-- A line record after reset (R56). -/
def LineRec.atReset : LineRec where
  role := .wake
  edge := .both
  level := none
  previous := none
  change := false
  overrun := false

/-- The Line Unit after reset: the first sample is due one period of 10 ms later (R56, R57). -/
def LineUnit.atReset : LineUnit where
  lines := Tab.replicate 16 LineRec.atReset
  period := 10
  sampleLeft := 10
  queue := []

/-- A timer record after reset (R64). -/
def TimerRec.atReset : TimerRec where
  mode := .oneShot
  preload := 60
  remaining := 0
  running := false
  thinning := false
  expiries := 0
  lost := 0

/-- The Timer Unit after reset (R64, R71). -/
def TimerUnit.atReset : TimerUnit where
  timers := Tab.replicate 8 TimerRec.atReset
  queue := []

/-- The parameters of a domain after reset: D0 enabled on B, the others disabled on S0 (R73). -/
def DomainParams.atReset (d : Domain) : DomainParams where
  enabled := d == Domain.D0
  port := if d = Domain.D0 then Port.B else 1
  readyMode := .timed
  awakeCurrent := 150
  sleepCurrent := 3
  rampCharge := 0
  minAwake := 10
  idleTimeout := 60
  readyTimeout := 2000
  readyRetries := 1
  windTimeout := 2000
  slotHold := 0
  announceId := none
  faultId := none
  noticeId := none
  sleepReadyId := none
  activity := none
  tokenCap := 4
  refill := 30

/-- A domain record after reset, before the RESET wake (R73, R75, R101). -/
def DomainRec.atReset (d : Domain) : DomainRec where
  params := DomainParams.atReset d
  state := .asleep
  enable := false
  wakeClass := none
  retriesUsed := 0
  slotHeld := false
  readyTimer := none
  minAwakeTimer := none
  idleTimer := .stopped
  windTimer := none
  notice := .none
  sleepReason := none
  forcedSleep := 0
  faults := 0
  ignored := 0

/-- The Slot Arbiter after reset (R102, R110). -/
def SlotArbiter.atReset : SlotArbiter where
  count := 2
  holders := Tab.replicate 12 none
  queue := []
  nextJoin := 0

/-- The Charge Account after reset: the tokens of each domain at the token cap of 4 (R120). -/
def Account.atReset : Account where
  budget := 4000
  upper := 40
  lower := 15
  baseDraw := 0
  spent := 0
  tier := .normal
  tokens := Tab.replicate 12 { tokens := 4, countdown := none }

/-- A FREE buffer (R143). -/
def Buffer.free : Buffer where
  state := .free
  slots := []
  stop := none
  wrapped := false
  postLeft := 0
  pending := 0
  woken := 0
  trigger := none
  closeSecond := 0
  epoch := 0
  skipped := 0

/-- The Capture Store after reset: mode 1, which has 16 buffers (R142, R160). -/
def CaptureStore.atReset : CaptureStore where
  mode := 1
  post := 4
  writePtr := 0
  readPtr := 0
  loss := 0
  buffers := List.replicate 16 Buffer.free

/-- Every port after reset: B ACTIVE, because the mode is RUN, and S0 to S5 LISTEN (R20). -/
def portsAtReset : Tab PortUnit 7 :=
  (Tab.replicate 7 PortUnit.atReset).set Port.B { PortUnit.atReset with active := true }

/-- The Management Unit after power-on reset with the strap value `strap` (R173). -/
def Management.atPowerOn (strap : BitVec 3) : Management where
  strap := strap
  mode := .run
  epoch := 0
  clock := 0
  secondLeft := Config.parkSecond
  prepared := false
  resetPending := false
  resetDeadline := none
  injection := []

/-- Every block at its value after reset around the Management Unit `m`, before the RESET wake of D0 (R173). -/
def State.blocksAtReset (m : Management) (timeBase : Nat) (pending : List Instr) : State where
  management := m
  ports := portsAtReset
  pointer := 0
  engine := Engine.atReset
  contributions := Tab.replicate 8 []
  lineUnit := LineUnit.atReset
  timerUnit := TimerUnit.atReset
  domains := Tab.ofFn DomainRec.atReset
  slots := SlotArbiter.atReset
  account := Account.atReset
  capture := CaptureStore.atReset
  causes := { records := [], overflow := 0 }
  timeBase := timeBase
  pending := pending

/-- D0 as the RESET wake leaves it: QUEUED at class 0 (R78, R101). -/
def DomainRec.resetD0 : DomainRec :=
  { DomainRec.atReset Domain.D0 with state := .queued, wakeClass := some 0 }

/-- The cause record that the RESET wake writes (R138, R139). -/
def resetCause : CauseRecord where
  second := 0
  domain := Domain.D0
  cause := .reset
  cls := 0
  outcome := .admitted
  buffer := none

/-- The part right after power-on reset (R20, R101, R110, R139, R173): every block at its value after reset, and then
the RESET wake of D0 taken, so that D0 is QUEUED at the head of the wait queue and the Cause Queue holds the one RESET
record. DESIGN CHOICE (assumption log 1): the strap pins read 0, and the time base starts at 0. -/
def State.reset : State :=
  { State.blocksAtReset (Management.atPowerOn 0) 0 [] with
    domains := (Tab.ofFn DomainRec.atReset).set Domain.D0 DomainRec.resetD0
    slots := { SlotArbiter.atReset with
      queue := [{ domain := Domain.D0, cls := 0, join := 0 }], nextJoin := 1 }
    causes := { records := [resetCause], overflow := 0 } }

end Sys2Proof.Machine
end

