-- ==== Sys2Proof/Machine/Flags.lean ====
section
/-!
DEFINITION. Counters that stop at their end, and the counters and accumulated flags of a port (R17, R18).
-/

namespace Sys2Proof.Machine

/-- A counter incremented by one that stops at `limit` (R17). -/
def satInc (limit c : Nat) : Nat := if c < limit then c + 1 else c

/-- A counter increased by `n` that stops at `limit` (R143). -/
def satAdd (limit c n : Nat) : Nat := min limit (c + n)

/-- The received counter counts a classical data frame (R3, R17). -/
def PortUnit.countReceived (u : PortUnit) : PortUnit :=
  { u with received := satInc Config.counterMax u.received }

/-- The unmatched counter counts a record that no row matches (R17, R29). -/
def PortUnit.countUnmatched (u : PortUnit) : PortUnit :=
  { u with unmatched := satInc Config.counterMax u.unmatched }

/-- A frame of an unsupported format is counted and its flag set (R3, R17, R18). -/
def PortUnit.countUnsupported (u : PortUnit) : PortUnit :=
  { u with unsupported := satInc Config.counterMax u.unsupported, unsupportedSeen := true }

/-- A frame lost to a full receive FIFO is counted and the flag set (R9, R17, R18). -/
def PortUnit.countOverrun (u : PortUnit) : PortUnit :=
  { u with overrun := satInc Config.counterMax u.overrun, overrunSeen := true }

/-- A frame entry dropped at a full forward queue is counted (R11, R17). -/
def PortUnit.countDrop (u : PortUnit) : PortUnit :=
  { u with forwardDrop := satInc Config.counterMax u.forwardDrop }

/-- A forwarded frame entry that a LISTEN port does not queue is counted (R11, R17). -/
def PortUnit.countSkipped (u : PortUnit) : PortUnit :=
  { u with forwardSkipped := satInc Config.counterMax u.forwardSkipped }

/-- A failed transmission attempt is counted and its flag set (R14, R17, R18). -/
def PortUnit.countFailure (u : PortUnit) : PortUnit :=
  { u with transmitFailure := satInc Config.counterMax u.transmitFailure, failureSeen := true }

/-- The four accumulated flags cleared by the response that reports them (R18). -/
def PortUnit.clearFlags (u : PortUnit) : PortUnit :=
  { u with overrunSeen := false, failureSeen := false, blockedSeen := false, unsupportedSeen := false }

end Sys2Proof.Machine
end

