-- ==== Sys2Proof/Machine/Operands.lean ====
section
/-!
DEFINITION. The encodings of Chapter 11: bytes of multi-byte values, argument bytes of a request, indexes and codes that
stand for named values.
-/

namespace Sys2Proof.Machine

/-! ### Bytes and fields (R174) -/

/-- The low `8 * k` bits of `n` as `k` bytes, most significant byte first (R174). -/
def beBytes (k n : Nat) : List Byte :=
  match k with
  | 0 => []
  | k + 1 => BitVec.ofNat 8 (n / 256 ^ k) :: beBytes k n

/-- One byte of value `n`. -/
def oneByte (n : Nat) : Byte := BitVec.ofNat 8 n

/-- Byte `i` of a request frame whose argument bytes are `args`: the arguments begin at byte 2, and a byte that the
frame does not carry reads as 0 (R175). -/
def argByte (args : List Byte) (i : Nat) : Byte := args.getD (i - 2) 0

/-- The 16-bit value in bytes `i` and `i + 1` of a request frame (R174). -/
def argWord (args : List Byte) (i : Nat) : Nat :=
  (argByte args i).toNat * 256 + (argByte args (i + 1)).toNat

/-- A running count of park seconds as it is reported and held at a stop: one whose expiry is due and not yet taken reads 1,
as before the park second that brought it to 0 (R72; assumption log 6). -/
def secondsLeft (n : Nat) : Nat := max 1 n

/-- Bits `low` to `low + width - 1` of a byte. -/
def bitField (b : Byte) (low width : Nat) : Nat := b.toNat / 2 ^ low % 2 ^ width

/-- One bit as a number. -/
def boolBit (b : Bool) : Nat := if b then 1 else 0

/-- A port set from its byte; bit 7 enters no set (R174). -/
def portSetOf (b : Byte) : PortSet := b.setWidth 7

/-- The byte of a port set (R174). -/
def portSetByte (p : PortSet) : Byte := p.setWidth 8

/-- A domain set from its 16-bit value; bits 12 to 15 enter no set (R174). -/
def domainSetOf (n : Nat) : DomainSet := BitVec.ofNat 12 n

/-- The two bytes of a domain set (R174). -/
def domainSetBytes (d : DomainSet) : List Byte := beBytes 2 d.toNat

/-! ### Sets -/

/-- Whether a port is a member of a port set. -/
def hasPort (ps : PortSet) (p : Port) : Bool := ps.getLsbD p.val

/-- The set that holds one port. -/
def onlyPort (p : Port) : PortSet := BitVec.ofNat 7 (2 ^ p.val)

/-- A port set less one port. -/
def withoutPort (ps : PortSet) (p : Port) : PortSet := ps &&& ~~~onlyPort p

/-- Whether a domain is a member of a domain set. -/
def hasDomain (ds : DomainSet) (d : Domain) : Bool := ds.getLsbD d.val

/-- The set that holds one domain. -/
def onlyDomain (d : Domain) : DomainSet := BitVec.ofNat 12 (2 ^ d.val)

/-- The port set of a list of ports that a test picks. -/
def portSetWhere (f : Port → Bool) : PortSet :=
  (List.finRange 7).foldl (fun acc p => if f p then acc ||| onlyPort p else acc) 0

/-- The domain set of the domains that a test picks. -/
def domainSetWhere (f : Domain → Bool) : DomainSet :=
  (List.finRange 12).foldl (fun acc d => if f d then acc ||| onlyDomain d else acc) 0

/-- A 16-bit value with bit n set for each line that a test picks (R178). -/
def lineBits (f : LineIx → Bool) : Nat :=
  (List.finRange 16).foldl (fun acc l => acc + (if f l then 2 ^ l.val else 0)) 0

/-! ### Indexes -/

/-- The port of a port code (R174). -/
def asPort (n : Nat) : Option Port := if h : n < 7 then some ⟨n, h⟩ else none

/-- The domain of a number. -/
def asDomain (n : Nat) : Option Domain := if h : n < 12 then some ⟨n, h⟩ else none

/-- The row of a number. -/
def asRow (n : Nat) : Option RowIx := if h : n < 128 then some ⟨n, h⟩ else none

/-- The group of a number. -/
def asGroup (n : Nat) : Option GroupIx := if h : n < 8 then some ⟨n, h⟩ else none

/-- The line of a number. -/
def asLine (n : Nat) : Option LineIx := if h : n < 16 then some ⟨n, h⟩ else none

/-- The timer of a number. -/
def asTimer (n : Nat) : Option TimerIx := if h : n < 8 then some ⟨n, h⟩ else none

/-- The wake class of a number. -/
def asClass (n : Nat) : Option WakeClass := if h : n < 4 then some ⟨n, h⟩ else none

/-- The 11-bit identifier of a number, absent above 0x7FF. -/
def asIdent (n : Nat) : Option Ident := if n < 2048 then some (BitVec.ofNat 11 n) else none

/-! ### Codes of named values -/

/-- The outcome of a response (section 10.4). -/
inductive Reply where
  | ok
  | clamped
  | unknown
  | index
  | value
  | latch
  | protectedRow
  | busy
  | state
  | sequence
  | length
  deriving DecidableEq, Repr

/-- The code of a response outcome (section 10.4). -/
def replyCode (r : Reply) : Byte :=
  match r with
  | .ok => 0
  | .clamped => 1
  | .unknown => 2
  | .index => 3
  | .value => 4
  | .latch => 5
  | .protectedRow => 6
  | .busy => 7
  | .state => 8
  | .sequence => 9
  | .length => 10

/-- The code of the part mode (R177). -/
def modeCode (m : Mode) : Byte :=
  match m with
  | .run => 0
  | .park => 1

/-- The code of a tier (R177). -/
def tierCode (t : Tier) : Byte :=
  match t with
  | .normal => 0
  | .reduced => 1
  | .critical => 2
  | .exhausted => 3

/-- The code of a domain state (R177). -/
def domainStateCode (d : DomainState) : Nat :=
  match d with
  | .asleep => 0
  | .queued => 1
  | .powering => 2
  | .awake => 3
  | .winding => 4
  | .fault => 5

/-- The code of a notice field (R177). -/
def noticeCode (n : NoticeField) : Nat :=
  match n with
  | .none => 0
  | .sleepQueued => 1
  | .sleepSent => 2
  | .cancelQueued => 3
  | .withdrawingSleep => 4
  | .withdrawingCancel => 5

/-- The code of a wake outcome (R177). -/
def wakeOutcomeCode (o : WakeOutcome) : Nat :=
  match o with
  | .admitted => 0
  | .merged => 1
  | .refusedDisabled => 2
  | .refusedFault => 3
  | .refusedTier => 4
  | .refusedQuota => 5
  | .refusedBudget => 6
  | .shed => 7
  | .failed => 8

/-- The code of a cause kind (R179). -/
def causeKindCode (c : Cause) : Nat :=
  match c with
  | .rule _ => 0
  | .group _ => 1
  | .mgmt => 2
  | .exit => 3
  | .reset => 4
  | .ready => 5
  | .budget => 6

/-- The cause index: the row of a rule, the group of a group firing, 0 otherwise (R138). -/
def causeIndex (c : Cause) : Nat :=
  match c with
  | .rule row => row.val
  | .group g => g.val
  | _ => 0

/-- The code of a buffer state (R178). -/
def bufferStateCode (b : BufferState) : Byte :=
  match b with
  | .free => 0
  | .opened => 1
  | .post => 2
  | .closed => 3
  | .done => 4

/-- The code of a trigger kind (R178). -/
def triggerCode (t : Option Trigger) : Byte :=
  match t with
  | none => 0
  | some (.rule _) => 1
  | some (.group _) => 2
  | some .mgmt => 3

/-- The byte of a trigger index. An absent trigger has no index, and R174 leaves its byte open (assumption log 8). -/
def triggerIndexByte (t : Option Trigger) : Byte :=
  match t with
  | none => if Config.absentTriggerIndexIsFF then 0xFF else 0
  | some (.rule row) => oneByte row.val
  | some (.group g) => oneByte g.val
  | some .mgmt => 0

/-- The code of a source in a stored frame (R178). -/
def sourceCode (s : Source) : Nat :=
  match s with
  | .port p => p.val
  | .line => 7
  | .timer => 8

/-- The code of a line role (R178). -/
def roleCode (r : LineRole) : Nat :=
  match r with
  | .unused => 0
  | .wake => 1
  | .ignition => 2

/-- The role of a code (R178). -/
def asRole (n : Nat) : Option LineRole :=
  match n with
  | 0 => some .unused
  | 1 => some .wake
  | 2 => some .ignition
  | _ => none

/-- The code of an edge selection (R178). -/
def edgeCode (e : EdgeSelect) : Nat :=
  match e with
  | .rising => 1
  | .falling => 2
  | .both => 3

/-- The edge selection of a code (R178). -/
def asEdge (n : Nat) : Option EdgeSelect :=
  match n with
  | 1 => some .rising
  | 2 => some .falling
  | 3 => some .both
  | _ => none

/-- The code of a timer mode (R178). -/
def timerModeCode (m : TimerMode) : Nat :=
  match m with
  | .oneShot => 0
  | .periodic => 1

/-- The timer mode of a code (R178). -/
def asTimerMode (n : Nat) : Option TimerMode :=
  match n with
  | 0 => some .oneShot
  | 1 => some .periodic
  | _ => none

/-- The code of the modes field of a row (R176). -/
def rowModesCode (m : RowModes) : Nat :=
  match m with
  | .run => 1
  | .park => 2
  | .both => 3

/-- The modes field of a code (R176). -/
def asRowModes (n : Nat) : Option RowModes :=
  match n with
  | 1 => some .run
  | 2 => some .park
  | 3 => some .both
  | _ => none

/-- The code of a ready mode (R177). -/
def readyModeCode (m : ReadyMode) : Nat :=
  match m with
  | .timed => 0
  | .announce => 1

/-- The ready mode of a code (R177). -/
def asReadyMode (n : Nat) : Option ReadyMode :=
  match n with
  | 0 => some .timed
  | 1 => some .announce
  | _ => none

/-- A wake class, or 0xFF where there is none (R174, R177). -/
def classByte (c : Option WakeClass) : Byte :=
  match c with
  | some c => oneByte c.val
  | none => 0xFF

/-- An index that may be absent, absent as 0xFF (R174). -/
def optionByte (n : Option Nat) : Byte :=
  match n with
  | some n => oneByte n
  | none => 0xFF

/-- The 16-bit value of an optional identifier, absent as 0xFFFF (R174). -/
def identWord (i : Option Ident) : Nat :=
  match i with
  | some i => i.toNat
  | none => 0xFFFF

/-! ### Frames that the part originates (R179) -/

/-- The byte of a notice's reason (R179). -/
def reasonByte (r : SleepReason) : Byte :=
  match r with
  | .idle => 1
  | .mgmt => 2
  | .shed => 3

/-- The data bytes of a notice frame (R179). -/
def noticeBytes (k : NoticeKind) : List Byte :=
  match k with
  | .sleep r => [1, reasonByte r]
  | .cancel => [0, 0]

/-- The data bytes of a cause frame (R179). -/
def causeBytes (c : CauseRecord) : List Byte :=
  beBytes 4 c.second.toNat ++
    [oneByte (c.domain.val + 16 * c.cls.val),
     oneByte (causeKindCode c.cause + 8 * wakeOutcomeCode c.outcome),
     oneByte (causeIndex c.cause),
     optionByte c.buffer]

end Sys2Proof.Machine
end

