-- ==== Sys2Proof/Machine/Ops.lean ====
section
/-!
DEFINITION. Access to the blocks of the state, and the operations of the ports: storing a record, offering an entry to a
forward queue, and the answers of the Management Unit.
-/

namespace Sys2Proof.Machine

/-! ### Access -/

/-- The Port Unit of a port. -/
def State.port (s : State) (p : Port) : PortUnit := s.ports.get p

/-- The state with one Port Unit changed. -/
def State.updPort (s : State) (p : Port) (f : PortUnit → PortUnit) : State :=
  { s with ports := s.ports.modify p f }

/-- The record of a domain. -/
def State.dom (s : State) (d : Domain) : DomainRec := s.domains.get d

/-- The state with one domain record changed. -/
def State.updDom (s : State) (d : Domain) (f : DomainRec → DomainRec) : State :=
  { s with domains := s.domains.modify d f }

/-- The port a domain is attached to (R1). -/
def State.portOf (s : State) (d : Domain) : Port := (s.dom d).params.port

/-- The part mode (R111). -/
def State.mode (s : State) : Mode := s.management.mode

/-- The park clock (R166). -/
def State.clock (s : State) : BitVec 32 := s.management.clock

/-- The buffer of an index; an index of no buffer of the present mode reads as a FREE buffer. -/
def State.buffer (s : State) (j : Nat) : Buffer := s.capture.buffers.getD j Buffer.free

/-- The state with one capture buffer changed. -/
def State.updBuffer (s : State) (j : Nat) (f : Buffer → Buffer) : State :=
  { s with capture := { s.capture with buffers := s.capture.buffers.modify j f } }

/-- Runs an operation once for each domain, in the order D0 to D11. -/
def State.eachDomain (s : State) (f : State → Domain → State) : State :=
  (List.finRange 12).foldl f s

/-! ### Management identifiers (R161) -/

/-- The request identifier, 0x700 + 4 × s (R161). -/
def State.requestId (s : State) : Ident := 0x700 + 4 * s.management.strap.setWidth 11

/-- The response identifier, the request identifier + 1 (R161). -/
def State.responseId (s : State) : Ident := s.requestId + 1

/-- The cause identifier, the request identifier + 2 (R161). -/
def State.causeId (s : State) : Ident := s.requestId + 2

/-! ### Receive FIFO (R9) and recovery (R16) -/

/-- The list with its newest record marked as the last before a gap (R9). -/
def markNewest (records : List FrameRecord) : List FrameRecord :=
  match records with
  | [] => []
  | [r] => [{ r with overrunMark := true }]
  | r :: rest => r :: markNewest rest

/-- A record made by R3 reaches the receive FIFO: it is appended, or it is lost and the newest stored record is marked
(R9). -/
def PortUnit.store (u : PortUnit) (r : FrameRecord) : PortUnit :=
  if u.rx.length < Config.receiveFifo then { u with rx := u.rx ++ [r] }
  else { u.countOverrun with rx := markNewest u.rx }

/-- A BLOCKED port leaves BLOCKED: its recovery timer stops and its consecutive-failure count becomes 0 (R16). -/
def PortUnit.leaveBlocked (u : PortUnit) : PortUnit :=
  if u.blocked then { u with blocked := false, recovery := none, failures := 0 } else u

/-! ### Forward queue (R10 to R12) -/

/-- Whether an entry is a frame entry. -/
def FwdEntry.isFrame (e : FwdEntry) : Bool :=
  match e with
  | .frame _ _ _ => true
  | .notice _ _ _ => false

/-- Whether an entry is a notice entry of a domain. -/
def FwdEntry.isNoticeOf (e : FwdEntry) (d : Domain) : Bool :=
  match e with
  | .frame _ _ _ => false
  | .notice d' _ _ => d' == d

/-- The frame entries that a forward queue holds, which count toward its 24 places (R10). -/
def PortUnit.frameEntries (u : PortUnit) : Nat := u.fwd.countP FwdEntry.isFrame

/-- The notice entries that a forward queue holds (R10). -/
def PortUnit.noticeEntries (u : PortUnit) : Nat := u.fwd.countP (fun e => !e.isFrame)

/-- Whether a port appends a forwarded frame entry at this moment (R11). -/
def PortUnit.takesForward (u : PortUnit) : Bool := u.active && decide (u.frameEntries < Config.forwardQueue)

/-- A frame entry that the Match Engine forwards is appended, dropped or skipped (R11). -/
def PortUnit.offerForward (u : PortUnit) (e : FwdEntry) : PortUnit :=
  if u.active then
    if u.frameEntries < Config.forwardQueue then { u with fwd := u.fwd ++ [e] } else u.countDrop
  else u.countSkipped

/-- A response or cause frame that the Management Unit offers is appended, also while the port listens, or dropped
(R11). -/
def PortUnit.offerManagement (u : PortUnit) (e : FwdEntry) : PortUnit :=
  if u.frameEntries < Config.forwardQueue then { u with fwd := u.fwd ++ [e] } else u.countDrop

/-- Whether the attempt in progress sends the oldest entry of the forward queue. -/
def PortUnit.sendingHead (u : PortUnit) : Bool :=
  match u.attempt with
  | some a => a.sending == .queueHead
  | none => false

/-- The entries that a removal of a domain's notice leaves at once: all but its entries that are not in transmission
(R12). -/
def PortUnit.withoutNotice (u : PortUnit) (d : Domain) : List FwdEntry :=
  if u.sendingHead then u.fwd.take 1 ++ (u.fwd.drop 1).filter (fun e => !e.isNoticeOf d)
  else u.fwd.filter (fun e => !e.isNoticeOf d)

/-- A notice entry is appended at the tail, after an entry of the same domain is removed (R12). -/
def PortUnit.offerNotice (u : PortUnit) (d : Domain) (i : Ident) (k : NoticeKind) : PortUnit :=
  { u with fwd := u.withoutNotice d ++ [.notice d i k] }

/-- The kind of the notice entry of a domain that stands in the queue, if one does. -/
def PortUnit.noticeOf (u : PortUnit) (d : Domain) : Option NoticeKind :=
  u.fwd.findSome? (fun e =>
    match e with
    | .frame _ _ _ => none
    | .notice d' _ k => if d' = d then some k else none)

/-- Whether the notice entry of a domain is the one in transmission (R12). -/
def PortUnit.sendingNoticeOf (u : PortUnit) (d : Domain) : Bool :=
  u.sendingHead &&
    match u.fwd.head? with
    | some e => e.isNoticeOf d
    | none => false

/-! ### Responses (R164) -/

/-- An outcome with the data that an answer of OK or CLAMPED carries. -/
structure Answer where
  reply : Reply
  data  : List Byte
  deriving DecidableEq, Repr

/-- A refusal or an answer without data. -/
def Answer.bare (r : Reply) : Answer := { reply := r, data := [] }

/-- An answer of OK with data. -/
def Answer.okay (data : List Byte) : Answer := { reply := .ok, data := data }

/-- The data bytes of a response: code, tag and outcome, and the data only at OK and CLAMPED (R164, R175). -/
def responseBytes (code tag : Byte) (a : Answer) : List Byte :=
  match a.reply with
  | .ok => code :: tag :: replyCode .ok :: a.data
  | .clamped => code :: tag :: replyCode .clamped :: a.data
  | r => [code, tag, replyCode r]

/-- A frame entry at the response identifier. -/
def State.responseEntry (s : State) (code tag : Byte) (a : Answer) (isReset : Bool) : FwdEntry :=
  .frame s.responseId (responseBytes code tag a) isReset

/-- A response is offered to B's forward queue (R164). -/
def State.respond (s : State) (code tag : Byte) (a : Answer) : State :=
  s.updPort Port.B (fun u => u.offerManagement (s.responseEntry code tag a false))

/-! ### Taking a request (R4, R162, R163, R171, R172) -/

/-- The record that port `p` makes of a classical data frame (R2, R3). -/
def State.portRecord (s : State) (p : Port) (i : Ident) (data : List Byte) : FrameRecord where
  source := .port p
  ident := i
  data := data
  arrival := s.clock
  overrunMark := false
  injected := false

/-- A valid frame is taken off the bus of a port: the port leaves BLOCKED if it was (R3, R16). -/
def State.frameHeard (s : State) (p : Port) (f : PortUnit → PortUnit) : State :=
  s.updPort p (fun u => (f u).leaveBlocked)

/-- Port B takes a frame at the request identifier. It is counted as received. While B is ACTIVE the Management Unit
takes it with `manage`, unless a reset is pending, when it is discarded; while B is LISTEN it is a record like any other
(R3, R4, R118, R172). -/
def State.requestFrame (s : State) (data : List Byte) (manage : State → State) : State :=
  let heard := s.frameHeard Port.B PortUnit.countReceived
  if (s.port Port.B).active then
    if s.management.resetPending then heard else manage heard
  else
    heard.updPort Port.B (fun u => u.store (s.portRecord Port.B s.requestId data))

/-- The reset-prepared flag set to `b` (R171). -/
def State.setPrepared (s : State) (b : Bool) : State :=
  { s with management := { s.management with prepared := b } }

/-- A request of code `code` other than Reset is executed: it clears the reset-prepared flag, is refused LENGTH when it
carries fewer than `needed` argument bytes, and is otherwise answered as its own rule `body` says (R163, R164, R171). -/
def State.manage (s : State) (code tag : Byte) (args : List Byte) (needed : Nat)
    (body : State → State × Answer) : State :=
  let s := s.setPrepared false
  if args.length < needed then s.respond code tag (.bare .length)
  else
    let (s', a) := body s
    s'.respond code tag a

/-- The argument bytes of one request frame: a frame carries at most six (section 10.3). -/
def frameArgs (args : List Byte) : List Byte := args.take 6

end Sys2Proof.Machine
end

