-- ==== Sys2Proof/Machine/CaptureOps.lean ====
section
/-!
DEFINITION. The operations of the Capture Store: recording, triggers, closing, removal, abort and release (R142 to R155).
-/

namespace Sys2Proof.Machine

/-- The frame slots of a buffer in a store mode: 16, 32, 64 or 128 (R142). -/
def bufferSize (mode : Fin 4) : Nat := 16 * 2 ^ mode.val

/-- The number of buffers in a store mode: 32, 16, 8 or 4 (R142). -/
def bufferCount (mode : Fin 4) : Nat := 32 / 2 ^ mode.val

/-- The buffer that follows buffer `j` in ring order (R142). -/
def State.nextBuffer (s : State) (j : Nat) : Nat := (j + 1) % bufferCount s.capture.mode

/-- Whether a stored frame is due on a port: it is meant for the port and has not reached it (R149). -/
def StoredFrame.due (f : StoredFrame) (p : Port) : Bool := hasPort f.forward p && !hasPort f.delivered p

/-- The slots of a buffer that hold a frame, oldest frame first (R146). -/
def Buffer.order (b : Buffer) : List Nat :=
  match b.wrapped, b.stop with
  | true, some k =>
    (List.range (b.slots.length - (k + 1))).map (fun i => i + (k + 1)) ++ List.range (k + 1)
  | _, _ => List.range b.slots.length

/-- The frame in a slot. -/
def Buffer.frame (b : Buffer) (slot : Nat) : Option StoredFrame := b.slots[slot]?

/-- Whether the frame in a slot is due on a port. -/
def Buffer.slotDue (b : Buffer) (p : Port) (slot : Nat) : Bool :=
  match b.frame slot with
  | some f => f.due p
  | none => false

/-- The slots whose frames are due on a port, oldest first (R149, R150). -/
def Buffer.dueSlots (b : Buffer) (p : Port) : List Nat := b.order.filter (b.slotDue p)

/-- The number of frames due on a port (R149). -/
def Buffer.dueCount (b : Buffer) (p : Port) : Nat := (b.dueSlots p).length

/-- A CLOSED buffer whose pending port set is empty becomes DONE (R154). -/
def Buffer.settle (b : Buffer) : Buffer :=
  if b.state = .closed ∧ b.pending = 0 then { b with state := .done } else b

/-- Whether a buffer is OPEN or POST, and so records (R144). -/
def Buffer.recording (b : Buffer) : Bool := b.state == .opened || b.state == .post

/-- In PARK, the buffer at the write pointer becomes OPEN if it is FREE, with the current park epoch (R144). -/
def State.openBuffer (s : State) : State :=
  if s.mode = .park ∧ (s.buffer s.capture.writePtr).state = .free then
    s.updBuffer s.capture.writePtr (fun b => { b with state := .opened, epoch := s.management.epoch })
  else s

/-- A frame is written into a buffer of `size` slots: into the slot after the stop slot, or slot 0, in place of the
frame that slot held. A POST buffer counts it against its post frames (R145). -/
def Buffer.write (b : Buffer) (size : Nat) (f : StoredFrame) : Buffer :=
  let slot := match b.stop with
    | none => 0
    | some k => (k + 1) % size
  let postLeft := if b.state = .post then b.postLeft - 1 else b.postLeft
  if slot < b.slots.length then
    { b with slots := b.slots.set slot f, stop := some slot, wrapped := true, postLeft := postLeft }
  else
    { b with slots := b.slots ++ [f], stop := some slot, postLeft := postLeft }

/-- A frame is offered for recording: it is written into the OPEN or POST buffer, or it is lost and counted (R145). -/
def State.recordFrame (s : State) (f : StoredFrame) : State :=
  if (s.buffer s.capture.writePtr).recording then
    s.updBuffer s.capture.writePtr (fun b => b.write (bufferSize s.capture.mode) f)
  else
    { s with capture := { s.capture with loss := satInc Config.counterMax s.capture.loss } }

/-- The trigger of an admission's cause (R147). -/
def triggerOf (c : Cause) : Option Trigger :=
  match c with
  | .rule row => some (.rule row)
  | .group g => some (.group g)
  | .mgmt => some .mgmt
  | .exit => none
  | .reset => none
  | .ready => none
  | .budget => none

/-- A buffer takes a trigger for a domain on a port: OPEN becomes POST, and POST merges the trigger (R147). -/
def Buffer.take (b : Buffer) (post : Nat) (d : Domain) (p : Port) (c : Cause) : Buffer :=
  if b.state = .opened then
    { b with state := .post, postLeft := post, trigger := triggerOf c, woken := onlyDomain d, pending := onlyPort p }
  else
    { b with woken := b.woken ||| onlyDomain d, pending := b.pending ||| onlyPort p }

/-- The buffer that a trigger names: the OPEN or POST buffer at the write pointer, or none (R147). -/
def State.triggerBuffer (s : State) : Option Nat :=
  if (s.buffer s.capture.writePtr).recording then some s.capture.writePtr else none

/-- The Capture Store is told of an admission taken in PARK (R147). -/
def State.trigger (s : State) (d : Domain) (c : Cause) : State :=
  match s.triggerBuffer with
  | some j => s.updBuffer j (fun b => b.take s.capture.post d (s.portOf d) c)
  | none => s

/-- Steps 1 to 3 of a closing: the buffer becomes CLOSED, ports with no frame due leave its pending set, and it becomes
DONE when no port is left (R148). -/
def Buffer.close (b : Buffer) (now : BitVec 32) : Buffer :=
  Buffer.settle
    { b with
      state := .closed
      closeSecond := now
      postLeft := 0
      pending := portSetWhere (fun p => hasPort b.pending p && decide (b.dueCount p ≠ 0)) }

/-- The buffer at the write pointer closes, the write pointer advances, and in PARK the next buffer opens if it is FREE
(R148). -/
def State.closeBuffer (s : State) : State :=
  let closed := s.updBuffer s.capture.writePtr (fun b => b.close s.clock)
  State.openBuffer
    { closed with capture := { closed.capture with writePtr := s.nextBuffer s.capture.writePtr } }

/-- At the end of an event, the buffer at the write pointer closes if it is POST with its post frames complete (R148). -/
def State.closeIfComplete (s : State) : State :=
  let b := s.buffer s.capture.writePtr
  if b.state = .post ∧ b.postLeft = 0 then s.closeBuffer else s

/-- At Park Exit, an OPEN buffer is emptied to FREE and a POST buffer closes at once (R159). -/
def State.captureParkExit (s : State) : State :=
  match (s.buffer s.capture.writePtr).state with
  | .opened => s.updBuffer s.capture.writePtr (fun _ => Buffer.free)
  | .post => s.closeBuffer
  | _ => s

/-- A port leaves the pending set of a buffer undelivered: its frames due are counted as skipped, and a CLOSED buffer
left with no pending port becomes DONE (R152, R153). -/
def Buffer.giveUp (b : Buffer) (p : Port) : Buffer :=
  Buffer.settle
    { b with
      skipped := satAdd Config.counterMax b.skipped (b.dueCount p)
      pending := withoutPort b.pending p }

/-- The replay in flight on a port is aborted (R152). -/
def State.abortReplay (s : State) (p : Port) : State :=
  match (s.port p).replay with
  | some j =>
    (s.updBuffer j (fun b => b.giveUp p)).updPort p (fun u => { u with replay := none, abortDue := false })
  | none => s.updPort p (fun u => { u with abortDue := false })

/-- Whether a domain still stands for the replay of a wake: QUEUED, POWERING, AWAKE or WINDING (R153). -/
def DomainState.standing (st : DomainState) : Bool :=
  match st with
  | .queued => true
  | .powering => true
  | .awake => true
  | .winding => true
  | .asleep => false
  | .fault => false

/-- Whether a domain of a set that is attached to a port meets a test on its state. -/
def State.anyOn (s : State) (ds : DomainSet) (p : Port) (f : DomainState → Bool) : Bool :=
  (List.finRange 12).any (fun d => hasDomain ds d && s.portOf d == p && f (s.dom d).state)

/-- Whether the report that domain `d` entered ASLEEP or FAULT removes its port `p` from buffer `b` of index `j`
(R153). -/
def State.removalApplies (s : State) (d : Domain) (p : Port) (j : Nat) (b : Buffer) : Bool :=
  (b.state == .post || b.state == .closed) && hasDomain b.woken d && hasPort b.pending p &&
    (s.port p).replay != some j && !s.anyOn b.woken p DomainState.standing

/-- The Capture Store is told that a domain has entered ASLEEP or FAULT (R153). -/
def State.domainDown (s : State) (d : Domain) : State :=
  let p := s.portOf d
  { s with
    capture := { s.capture with
      buffers := s.capture.buffers.mapIdx
        (fun j b => if s.removalApplies d p j b then b.giveUp p else b) } }

/-- The indexes of the buffers in closing order, oldest first: ring order from the read pointer (R142, R154). -/
def State.ring (s : State) : List Nat :=
  (List.range (bufferCount s.capture.mode)).map
    (fun i => (s.capture.readPtr + i) % bufferCount s.capture.mode)

/-- The oldest CLOSED buffer that has a port pending (R149). -/
def State.oldestPending (s : State) (p : Port) : Option Nat :=
  s.ring.find? (fun j => (s.buffer j).state == .closed && hasPort (s.buffer j).pending p)

/-- Whether an attempt in progress on some port sends a frame of buffer `j` (R154). -/
def State.sendingFrom (s : State) (j : Nat) : Bool :=
  (List.finRange 7).any (fun p =>
    match (s.port p).attempt with
    | some a =>
      match a.sending with
      | .replay j' _ => j' == j
      | .queueHead => false
    | none => false)

end Sys2Proof.Machine
end

