-- ==== Sys2Proof/Machine/DomainOps.lean ====
section
/-!
DEFINITION. The port state derivation (R5 to R8), the Slot Arbiter's queue and releases (R103, R104, R106, R107), the
sleep and cancel notices (R88 to R91) and the transitions of a domain (R76 to R99).
-/

namespace Sys2Proof.Machine

/-! ### Port state (R5 to R8) -/

/-- Whether a state keeps the port of its domain ACTIVE: AWAKE or WINDING (R5). -/
def DomainState.activates (st : DomainState) : Bool :=
  match st with
  | .awake => true
  | .winding => true
  | _ => false

/-- Whether a state asserts the enable line: POWERING, AWAKE or WINDING (R77). -/
def DomainState.powered (st : DomainState) : Bool :=
  match st with
  | .powering => true
  | .awake => true
  | .winding => true
  | _ => false

/-- The derived state of a port, true for ACTIVE (R5). -/
def State.derivedActive (s : State) (p : Port) : Bool :=
  if p = Port.B then s.mode == .run || (s.dom Domain.D0).state.activates
  else (List.finRange 12).any (fun d => s.portOf d == p && (s.dom d).state.activates)

/-- A port changes from LISTEN to ACTIVE (R7). -/
def PortUnit.toActive (u : PortUnit) : PortUnit :=
  { u with active := true, failures := 0, blocked := false, recovery := none }

/-- A port changes from ACTIVE to LISTEN: an attempt in progress is detached, and the port is not BLOCKED (R8). -/
def PortUnit.toListen (u : PortUnit) : PortUnit :=
  { u with
    active := false
    failures := 0
    blocked := false
    recovery := none
    attempt := u.attempt.map (fun a => { a with detached := true }) }

/-- Whether the attempt in progress sends a replay frame. -/
def PortUnit.sendingReplay (u : PortUnit) : Bool :=
  match u.attempt with
  | some a =>
    match a.sending with
    | .replay _ _ => true
    | .queueHead => false
  | none => false

/-- A port changes to LISTEN, and a replay in flight on it is aborted: at the end of the attempt when a replay frame is
in transmission, and at once otherwise (R8, R152). -/
def State.portListen (s : State) (p : Port) : State :=
  let s := s.updPort p PortUnit.toListen
  match (s.port p).replay with
  | none => s
  | some _ =>
    if (s.port p).sendingReplay then s.updPort p (fun u => { u with abortDue := true })
    else s.abortReplay p

/-- A port derives its state anew (R5). -/
def State.rederive (s : State) (p : Port) : State :=
  if s.derivedActive p = (s.port p).active then s
  else if s.derivedActive p then s.updPort p PortUnit.toActive
  else s.portListen p

/-- Every port derives its state anew, at a change of mode (R111). -/
def State.rederiveAll (s : State) : State := (List.finRange 7).foldl State.rederive s

/-! ### Slot Arbiter -/

/-- Whether entry `a` stands before entry `b` in the wait queue: by class, and within a class by join order (R103). -/
def WaitEntry.before (a b : WaitEntry) : Bool :=
  decide (a.cls < b.cls) || (a.cls == b.cls && decide (a.join < b.join))

/-- An entry takes its place in the wait queue (R103). -/
def insertEntry (e : WaitEntry) (q : List WaitEntry) : List WaitEntry :=
  match q with
  | [] => [e]
  | x :: rest => if e.before x then e :: x :: rest else x :: insertEntry e rest

/-- The number of domains that hold a slot (R105). -/
def SlotArbiter.holderCount (a : SlotArbiter) : Nat := a.holders.items.countP Option.isSome

/-- A domain that has become QUEUED joins the wait queue with the latest join order (R103). -/
def SlotArbiter.joinQueue (a : SlotArbiter) (d : Domain) (c : WakeClass) : SlotArbiter :=
  { a with
    queue := insertEntry { domain := d, cls := c, join := a.nextJoin } a.queue
    nextJoin := a.nextJoin + 1 }

/-- A domain's entry leaves the wait queue (R103). -/
def SlotArbiter.leaveQueue (a : SlotArbiter) (d : Domain) : SlotArbiter :=
  { a with queue := a.queue.filter (fun e => e.domain != d) }

/-- A domain's entry takes the place of its new class and keeps its join order (R104). -/
def SlotArbiter.reclass (a : SlotArbiter) (d : Domain) (c : WakeClass) : SlotArbiter :=
  match a.queue.find? (fun e => e.domain == d) with
  | some e =>
    { a with queue := insertEntry { e with cls := c } (a.queue.filter (fun e => e.domain != d)) }
  | none => a

/-- The state with the Slot Arbiter changed. -/
def State.updSlots (s : State) (f : SlotArbiter → SlotArbiter) : State := { s with slots := f s.slots }

/-- A domain's slot is released: its holder record and its slot-held flag go together (R107). -/
def State.releaseSlot (s : State) (d : Domain) : State :=
  (s.updSlots (fun a => { a with holders := a.holders.set d none })).updDom d
    (fun r => { r with slotHeld := false })

/-- A domain that was POWERING has become ready: with slot hold 0 its slot is released at once, and otherwise its record
goes to the HOLD phase (R106). -/
def State.slotReady (s : State) (d : Domain) : State :=
  match s.slots.holders.get d with
  | some .powering =>
    if (s.dom d).params.slotHold = 0 then s.releaseSlot d
    else s.updSlots (fun a => { a with holders := a.holders.set d (some (.hold (s.dom d).params.slotHold)) })
  | _ => s

/-! ### Notices (R88 to R91) -/

/-- The identifier a notice of the domain would carry, when one may be offered: the notice id is present and the
domain's port is not BLOCKED (R88, R91). -/
def State.noticeOffer (s : State) (d : Domain) : Option Ident :=
  if (s.port (s.portOf d)).blocked then none else (s.dom d).params.noticeId

/-- The wind timer of a domain starts at Twind unless it is running (R89). -/
def DomainRec.startWind (r : DomainRec) : DomainRec :=
  match r.windTimer with
  | none => { r with windTimer := some r.params.windTimeout }
  | some _ => r

/-- A sleep notice with the pending sleep reason is offered, or skipped with the wind timer started (R88, R91). -/
def State.offerSleep (s : State) (d : Domain) : State :=
  match s.noticeOffer d, (s.dom d).sleepReason with
  | some i, some reason =>
    (s.updPort (s.portOf d) (fun u => u.offerNotice d i (.sleep reason))).updDom d
      (fun r => { r with notice := .sleepQueued })
  | _, _ => s.updDom d (fun r => { r.startWind with notice := .none })

/-- A cancel notice is offered, or skipped (R91, R93). -/
def State.offerCancel (s : State) (d : Domain) : State :=
  match s.noticeOffer d with
  | some i =>
    (s.updPort (s.portOf d) (fun u => u.offerNotice d i .cancel)).updDom d
      (fun r => { r with notice := .cancelQueued })
  | none => s.updDom d (fun r => { r with notice := .none })

/-- The report that ends a withdrawal settles the notice field by the kind withdrawn, the report and the domain's state
(R91). -/
def State.settleNotice (s : State) (d : Domain) (k : NoticeKind) (transmitted : Bool) : State :=
  match (s.dom d).state, k, transmitted with
  | .winding, .sleep _, true => s.updDom d (fun r => { r.startWind with notice := .sleepSent })
  | .winding, _, _ => s.offerSleep d
  | .awake, .sleep _, true => s.offerCancel d
  | .awake, .cancel, false => s.offerCancel d
  | _, _, _ => s.updDom d (fun r => { r with notice := .none })

/-- The notice field while the withdrawal of an entry is under way (R91). -/
def withdrawing (k : NoticeKind) : NoticeField :=
  match k with
  | .sleep _ => .withdrawingSleep
  | .cancel => .withdrawingCancel

/-- Whether a withdrawal has been asked for and not yet reported (R91). -/
def NoticeField.isWithdrawing (n : NoticeField) : Bool :=
  match n with
  | .withdrawingSleep => true
  | .withdrawingCancel => true
  | _ => false

/-- The Domain Controller withdraws the domain's notice entry. An entry not in transmission is removed and reported
unsent at once; the removal of an entry in transmission waits for the end of its attempt. Where no entry stands, the
field becomes NONE, and a withdrawal already asked for is not asked for again (R12, R91). -/
def State.withdrawNotice (s : State) (d : Domain) : State :=
  let p := s.portOf d
  if (s.dom d).notice.isWithdrawing then s
  else
    match (s.port p).noticeOf d with
    | none => s.updDom d (fun r => { r with notice := .none })
    | some k =>
      if (s.port p).sendingNoticeOf d then
        (s.updPort p (fun u => { u with attempt := u.attempt.map (fun a => { a with removal := true }) })).updDom d
          (fun r => { r with notice := withdrawing k })
      else
        (s.updPort p (fun u => { u with fwd := u.withoutNotice d })).settleNotice d k false

/-! ### Transitions -/

/-- The domain takes a state: its enable line takes the level that the state calls for, and its port derives its state
anew (R5, R77). -/
def State.enterState (s : State) (d : Domain) (st : DomainState) : State :=
  (s.updDom d (fun r => { r with state := st, enable := st.powered })).rederive (s.portOf d)

/-- The domain leaves power or the wait queue for ASLEEP or FAULT. Its timers are left as `timers` leaves them, its wake
class becomes none, it leaves the wait queue, its slot is released, its notice entry is withdrawn, and the Capture Store
is told (R76, R81, R83, R92, R95, R97, R98, R153). -/
def State.switchOff (s : State) (d : Domain) (st : DomainState) (timers : DomainRec → DomainRec) : State :=
  let s := s.updDom d (fun r => { timers r with wakeClass := none })
  let s := s.enterState d st
  let s := s.updSlots (fun a => a.leaveQueue d)
  let s := s.releaseSlot d
  let s := s.withdrawNotice d
  s.domainDown d

/-- Entry to AWAKE: the min-awake and idle timers start, and the port derives its state anew (R85). A min-awake time of
0 has elapsed at once (R84). -/
def State.enterAwake (s : State) (d : Domain) : State :=
  (s.updDom d (fun r =>
      { r with
        minAwakeTimer := if r.params.minAwake = 0 then none else some r.params.minAwake
        idleTimer := .running r.params.idleTimeout })).enterState d .awake

/-- A POWERING domain becomes ready: its ready timer stops, it enters AWAKE, and the Slot Arbiter is told (R79, R80,
R85). -/
def State.becomeReady (s : State) (d : Domain) : State :=
  ((s.updDom d (fun r => { r with readyTimer := none })).enterAwake d).slotReady d

/-- What the notice field decides at entry to WINDING (R88). -/
def State.noticeAtWinding (s : State) (d : Domain) : State :=
  match (s.noticeOffer d).isSome, (s.dom d).notice with
  | true, .cancelQueued => s.withdrawNotice d
  | true, .withdrawingSleep => s
  | true, .withdrawingCancel => s
  | true, _ => s.offerSleep d
  | false, .cancelQueued => s.updDom d DomainRec.startWind
  | false, .withdrawingSleep => s.updDom d DomainRec.startWind
  | false, .withdrawingCancel => s.updDom d DomainRec.startWind
  | false, _ => s.offerSleep d

/-- An AWAKE domain goes to WINDING with a reason (R88). -/
def State.enterWinding (s : State) (d : Domain) (reason : SleepReason) : State :=
  State.noticeAtWinding
    ((s.updDom d (fun r =>
      { r with idleTimer := .stopped, minAwakeTimer := none, sleepReason := some reason })).enterState d .winding) d

/-- What the notice field decides at a return from WINDING to AWAKE (R93). -/
def State.noticeAtReturn (s : State) (d : Domain) : State :=
  match (s.dom d).notice with
  | .sleepQueued => s.withdrawNotice d
  | .sleepSent => s.offerCancel d
  | _ => s

/-- An admitted request returns a WINDING domain to AWAKE without a slot and without a ramp (R93). -/
def State.returnAwake (s : State) (d : Domain) (c : WakeClass) : State :=
  State.noticeAtReturn
    ((s.updDom d (fun r => { r with windTimer := none, sleepReason := none, wakeClass := some c })).enterAwake d) d

/-- The timers of a domain that is switched off from POWERING, or leaves the wait queue (R95, R97). -/
def DomainRec.stopReady (r : DomainRec) : DomainRec := { r with readyTimer := none }

/-- The timers of a disabled domain: ready, idle and wind stop, and min-awake has elapsed (R76). -/
def DomainRec.stopAll (r : DomainRec) : DomainRec :=
  { r with readyTimer := none, idleTimer := .stopped, windTimer := none, minAwakeTimer := none }

/-- The idle timer stopped if it was running; an expired timer stays expired (R83, R84). -/
def IdleTimer.stopRunning (t : IdleTimer) : IdleTimer :=
  match t with
  | .running _ => .stopped
  | .stopped => .stopped
  | .expired => .expired

/-- The timers of a domain that a fault frame puts in FAULT (R83). -/
def DomainRec.stopAtFault (r : DomainRec) : DomainRec :=
  { r with
    readyTimer := none
    idleTimer := r.idleTimer.stopRunning
    windTimer := none
    minAwakeTimer := none
    faults := satInc Config.counterMax r.faults }

/-- The timers of a WINDING domain that goes to ASLEEP (R92). -/
def DomainRec.stopWinding (r : DomainRec) : DomainRec := { r with windTimer := none, sleepReason := none }

/-- A WINDING domain goes to ASLEEP (R92). -/
def State.windingAsleep (s : State) (d : Domain) : State := s.switchOff d .asleep DomainRec.stopWinding

/-- The domain is disabled at once (R76). -/
def State.disable (s : State) (d : Domain) : State := s.switchOff d .asleep DomainRec.stopAll

/-- The effective ready mode: ANNOUNCE with no announce id is TIMED (R73). -/
def DomainRec.effectiveReady (r : DomainRec) : ReadyMode :=
  match r.params.readyMode, r.params.announceId with
  | .announce, some _ => .announce
  | _, _ => .timed

/-! ### Wake requests at the Domain Controller (R78) -/

/-- An ADMITTED request: an ASLEEP domain becomes QUEUED and joins the wait queue, and a WINDING domain returns to AWAKE
(R78, R93). -/
def State.admitted (s : State) (d : Domain) (c : WakeClass) : State :=
  match (s.dom d).state with
  | .winding => s.returnAwake d c
  | _ =>
    let s := s.updDom d (fun r => { r with wakeClass := some c, retriesUsed := 0 })
    (s.enterState d .queued).updSlots (fun a => a.joinQueue d c)

/-- The wake class after a MERGED request: the request's class where that is the lower number (R78, R98). -/
def mergedClass (held : Option WakeClass) (c : WakeClass) : WakeClass :=
  match held with
  | some h => if c < h then c else h
  | none => c

/-- A MERGED request: it may lower the wake class, which moves the entry of a QUEUED domain, and it restarts the idle
timer of an AWAKE domain (R78, R86, R104). -/
def State.merged (s : State) (d : Domain) (c : WakeClass) : State :=
  let k := mergedClass (s.dom d).wakeClass c
  let s := s.updDom d (fun r => { r with wakeClass := some k })
  match (s.dom d).state with
  | .queued => s.updSlots (fun a => a.reclass d k)
  | .awake => s.updDom d (fun r => { r with idleTimer := .running r.params.idleTimeout })
  | _ => s

/-! ### Frames that a domain recognises (R82) -/

/-- A frame of the domain that causes no transition is counted as ignored (R82). -/
def State.ignoreFrame (s : State) (d : Domain) : State :=
  s.updDom d (fun r => { r with ignored := satInc Config.counterMax r.ignored })

/-- A fault frame of the domain (R83). -/
def State.faultFrame (s : State) (d : Domain) : State :=
  if (s.dom d).state.powered then s.switchOff d .fault DomainRec.stopAtFault else s.ignoreFrame d

/-- An announce frame of the domain (R80). -/
def State.announceFrame (s : State) (d : Domain) : State :=
  if (s.dom d).state = .powering ∧ (s.dom d).effectiveReady = .announce then s.becomeReady d
  else s.ignoreFrame d

/-- A sleep-ready frame of the domain (R92). -/
def State.sleepReadyFrame (s : State) (d : Domain) : State :=
  if (s.dom d).state = .winding then s.windingAsleep d else s.ignoreFrame d

/-- Whether an identifier counts as activity for the parameters of a domain (R82). -/
def DomainParams.isActivity (q : DomainParams) (i : Ident) : Bool :=
  match q.activity with
  | none => true
  | some (a, m) => (i &&& m) == (a &&& m)

/-- A frame that counts as activity restarts the idle timer of an AWAKE domain (R82, R86). -/
def State.activityFrame (s : State) (d : Domain) (i : Ident) : State :=
  if (s.dom d).state = .awake ∧ (s.dom d).params.isActivity i then
    s.updDom d (fun r => { r with idleTimer := .running r.params.idleTimeout })
  else s

/-- A frame record from the domain's port is checked against the domain's identifiers: fault first, which ends the
checks, then announce, sleep-ready and activity (R82). -/
def State.recognise (s : State) (d : Domain) (i : Ident) : State :=
  let q := (s.dom d).params
  if q.faultId = some i then s.faultFrame d
  else
    let s := if q.announceId = some i then s.announceFrame d else s
    let s := if q.sleepReadyId = some i then s.sleepReadyFrame d else s
    s.activityFrame d i

/-- A frame record from a port is offered to the Domain Controller, which takes each domain attached to that port in
turn (R34, R82). -/
def State.offerToDomains (s : State) (p : Port) (i : Ident) : State :=
  s.eachDomain (fun s d => if s.portOf d = p then s.recognise d i else s)

/-! ### Blocking (R15, R89) -/

/-- The wind timer of every WINDING domain attached to a port that has become BLOCKED starts (R89). -/
def State.windOnBlocked (s : State) (p : Port) : State :=
  s.eachDomain (fun s d =>
    if s.portOf d = p ∧ (s.dom d).state = .winding then s.updDom d DomainRec.startWind else s)

/-- The wake class, timers and queue place of a domain at Park Enter (R99, R104). -/
def State.parkDomain (s : State) (d : Domain) : State :=
  match (s.dom d).state with
  | .asleep => s
  | .fault => s
  | .queued => (s.updDom d (fun r => { r with wakeClass := some 3 })).updSlots (fun a => a.reclass d 3)
  | .awake =>
    s.updDom d (fun r =>
      { r with wakeClass := some 3, idleTimer := .running r.params.idleTimeout, minAwakeTimer := none })
  | _ => s.updDom d (fun r => { r with wakeClass := some 3 })

end Sys2Proof.Machine
end

