-- ==== Sys2Proof/Machine/AccountOps.lean ====
section
/-!
DEFINITION. The Charge Account's tier and shedding (R122 to R127), the cost and floor of a wake (R128, R130), admission
(R131, R132, R135) and the writing of cause records (R138, R139).
-/

namespace Sys2Proof.Machine

/-- The state with the Charge Account changed. -/
def State.updAccount (s : State) (f : Account → Account) : State := { s with account := f s.account }

/-- The token state of a domain. -/
def State.tokens (s : State) (d : Domain) : TokenRec := s.account.tokens.get d

/-- The state with a domain's token state changed. -/
def State.updTokens (s : State) (d : Domain) (f : TokenRec → TokenRec) : State :=
  s.updAccount (fun a => { a with tokens := a.tokens.modify d f })

/-! ### Cause records -/

/-- A cause record is appended to the Cause Queue, or is lost and counted in the overflow count (R139). -/
def CauseQueue.write (q : CauseQueue) (r : CauseRecord) : CauseQueue :=
  if q.records.length < Config.causeQueue then { q with records := q.records ++ [r] }
  else { q with overflow := satInc Config.byteMax q.overflow }

/-- A cause record is written with the park clock as it stands (R138). -/
def State.writeCause (s : State) (d : Domain) (c : Cause) (k : WakeClass) (o : WakeOutcome) (j : Option Nat) :
    State :=
  { s with
    causes := s.causes.write
      { second := s.clock, domain := d, cause := c, cls := k, outcome := o, buffer := j } }

/-! ### Charge and tier -/

/-- The budget in microampere-seconds, Bu (R120). -/
def Account.bu (a : Account) : Nat := Config.chargePerMah * a.budget

/-- The remaining charge R: Bu less A, or 0 when A is not below Bu (R120). -/
def Account.remaining (a : Account) : Nat := a.bu - a.spent

/-- The tier that the remaining charge and the thresholds prescribe (R125). -/
def Account.prescribedTier (a : Account) : Tier :=
  if a.remaining = 0 then .exhausted
  else if 100 * a.remaining < a.lower * a.bu then .critical
  else if 100 * a.remaining < a.upper * a.bu then .reduced
  else .normal

/-- The order of the tiers, NORMAL the highest (R125). -/
def Tier.depth (t : Tier) : Nat :=
  match t with
  | .normal => 0
  | .reduced => 1
  | .critical => 2
  | .exhausted => 3

/-- Whether a tier admits a class (R126). -/
def Tier.admits (t : Tier) (c : WakeClass) : Bool := decide (c.val + t.depth ≤ 3)

/-- A charge added to A, which saturates (R124). -/
def Account.addCharge (a : Account) (n : Nat) : Account :=
  { a with spent := min Config.chargeMax (a.spent + n) }

/-- Whether a state is one from which shedding takes a domain: AWAKE, QUEUED or POWERING (R127). -/
def DomainState.sheddable (st : DomainState) : Bool :=
  match st with
  | .queued => true
  | .powering => true
  | .awake => true
  | _ => false

/-- Whether a tier change selects a domain: it is AWAKE, QUEUED or POWERING, and the tier does not serve its wake class
(R127). -/
def DomainRec.selectedBy (r : DomainRec) (t : Tier) : Bool :=
  r.state.sheddable &&
    match r.wakeClass with
    | some c => !t.admits c
    | none => false

/-- The Domain Controller acts on a shed domain (R97). -/
def State.shedDomain (s : State) (d : Domain) : State :=
  match (s.dom d).state with
  | .awake => s.enterWinding d .shed
  | .queued => s.switchOff d .asleep DomainRec.stopReady
  | .powering => s.switchOff d .asleep DomainRec.stopReady
  | _ => s

/-- One selected domain is shed: its record is written with the class it held, and then the Domain Controller acts
(R127). -/
def State.shedOne (s : State) (d : Domain) : State :=
  match (s.dom d).wakeClass with
  | some c => (s.writeCause d .budget c .shed none).shedDomain d
  | none => s

/-- The domains that the tier held selects, in domain order (R127). -/
def State.selection (s : State) : List Domain :=
  (List.finRange 12).filter (fun d => (s.dom d).selectedBy s.account.tier)

/-- A shedding: the domains are selected once and shed in the order D0 to D11 (R127). -/
def State.shed (s : State) : State := s.selection.foldl State.shedOne s

/-- The tier is recomputed from R and the thresholds, without its shedding (R125). -/
def State.setTier (s : State) : State := s.updAccount (fun a => { a with tier := a.prescribedTier })

/-- The tier is recomputed, and a downward change is shed (R125, R127). -/
def State.retier (s : State) : State :=
  if s.account.tier.depth < s.account.prescribedTier.depth then s.setTier.shed else s.setTier

/-- The current of a domain over one second, in µA·s: Ia while it is POWERING, AWAKE or WINDING, and Is otherwise
(R122). -/
def DomainRec.draw (r : DomainRec) : Nat :=
  if r.state.powered then 1000 * r.params.awakeCurrent else 10 * r.params.sleepCurrent

/-- The draw of one second: the base draw and the current of every domain (R122). -/
def State.draw (s : State) : Nat :=
  s.account.baseDraw + (s.domains.items.map DomainRec.draw).sum

/-! ### Cost and floor of a wake -/

/-- The cost of a wake from the domain's present state (R128). -/
def DomainRec.wakeCost (r : DomainRec) : Nat :=
  (if r.state = .winding then 0 else 1000 * r.params.rampCharge) + 1000 * r.params.awakeCurrent * r.params.minAwake

/-- The share of the budget, in percent, that must remain after a wake of a class (R130). -/
def Account.floorPercent (a : Account) (c : WakeClass) : Nat :=
  if c = 3 then a.upper else if c = 2 then a.lower else 0

/-- Whether the budget test refuses a wake of a class and a cost (R130). -/
def Account.refuses (a : Account) (c : WakeClass) (cost : Nat) : Bool :=
  decide (a.remaining < cost) || decide (100 * (a.remaining - cost) < a.floorPercent c * a.bu)

/-! ### Admission -/

/-- The outcome of a wake request: the first check that applies (R131). -/
def State.judge (s : State) (d : Domain) (c : WakeClass) : WakeOutcome :=
  let r := s.dom d
  if r.params.enabled = false then .refusedDisabled
  else if r.state = .fault then .refusedFault
  else if r.state.sheddable then .merged
  else if s.mode = .run then .admitted
  else if c = 0 then .admitted
  else if s.account.tier.admits c = false then .refusedTier
  else if (s.tokens d).tokens = 0 then .refusedQuota
  else if s.account.refuses c r.wakeCost then .refusedBudget
  else .admitted

/-- Whether an admission consumes a token: in PARK, for a class above 0, by step 9 of R131. -/
def State.consumes (s : State) (c : WakeClass) (o : WakeOutcome) : Bool :=
  o == .admitted && s.mode == .park && c != 0

/-- One of a domain's tokens is consumed, and the refill countdown starts if it is stopped (R135). -/
def State.consumeToken (s : State) (d : Domain) : State :=
  s.updTokens d (fun t =>
    { tokens := t.tokens - 1
      countdown := match t.countdown with
        | some n => some n
        | none => some (60 * (s.dom d).params.refill) })

/-- The capture buffer index that the record of an outcome carries (R132, R138). -/
def State.namedBuffer (s : State) (o : WakeOutcome) : Option Nat :=
  if o = .admitted ∧ s.mode = .park then s.triggerBuffer else none

/-- The part of an admission before its record: the token, and the trigger of the Capture Store (R132). -/
def State.settleAdmission (s : State) (d : Domain) (c : WakeClass) (cause : Cause) (o : WakeOutcome) : State :=
  let s := if s.consumes c o then s.consumeToken d else s
  if o = .admitted ∧ s.mode = .park then s.trigger d cause else s

/-- The Domain Controller acts on an ADMITTED or MERGED outcome, and on no other (R78, R132). -/
def State.actOn (s : State) (d : Domain) (c : WakeClass) (o : WakeOutcome) : State :=
  match o with
  | .admitted => s.admitted d c
  | .merged => s.merged d c
  | _ => s

/-- A wake request is judged and carried through token, capture, record and domain (R131, R132). -/
def State.wakeRequest (s : State) (d : Domain) (c : WakeClass) (cause : Cause) : State :=
  let o := s.judge d c
  ((s.settleAdmission d c cause o).writeCause d cause c o (s.namedBuffer o)).actOn d c o

/-! ### Slot grant (R78, R105, R123) -/

/-- Whether a slot can be granted: fewer holders than the slot count, and a domain waits (R105). -/
def SlotArbiter.canGrant (a : SlotArbiter) : Bool :=
  decide (a.holderCount < a.count) && !a.queue.isEmpty

/-- A slot is granted to a domain: it becomes POWERING with its slot held and its enable line asserted, its ramp charge
is added in PARK, its ready timer starts, and a downward change of tier is shed. A ramp charge of 0 changes no tier
(R78, R105, R123). -/
def State.grantTo (s : State) (d : Domain) : State :=
  let s := s.updSlots (fun a => { a.leaveQueue d with holders := a.holders.set d (some .powering) })
  let s := (s.updDom d (fun r => { r with slotHeld := true })).enterState d .powering
  let charged :=
    if s.mode = .park then s.updAccount (fun a => a.addCharge (1000 * (s.dom d).params.rampCharge)) else s
  let ready := charged.updDom d (fun r => { r with retriesUsed := 0, readyTimer := some r.params.readyTimeout })
  if s.mode = .park ∧ (s.dom d).params.rampCharge ≠ 0 then ready.retier else ready

/-- The head of the wait queue is granted a slot, when one can be granted (R105). -/
def State.grantSlot (s : State) : State :=
  if s.slots.canGrant then
    match s.slots.queue with
    | e :: _ => s.grantTo e.domain
    | [] => s
  else s

/-! ### Park transitions (R113 to R117) -/

/-- The tokens and countdowns at Park Enter (R133). -/
def State.refillAtPark (s : State) (d : Domain) : State :=
  s.updTokens d (fun _ => { tokens := (s.dom d).params.tokenCap, countdown := none })

/-- Park Enter, in the order of R113: mode, epoch, domains, account with the tier of R114, capture. -/
def State.parkEnter (s : State) : State :=
  let s := { s with management := { s.management with mode := .park } }
  let s := s.rederiveAll
  let s := { s with management := { s.management with epoch := s.management.epoch + 1 } }
  let s := s.eachDomain State.parkDomain
  let s := (s.updAccount (fun a => { a with spent := 0 })).eachDomain State.refillAtPark
  let s := s.setTier.shed
  s.openBuffer

/-- One EXIT wake request, made for a domain that is enabled and ASLEEP or WINDING at that moment (R117). -/
def State.exitWake (s : State) (d : Domain) : State :=
  if (s.dom d).params.enabled ∧ ((s.dom d).state = .asleep ∨ (s.dom d).state = .winding) then
    s.wakeRequest d 0 .exit
  else s

/-- Park Exit, in the order of R116: mode, account, capture, wakes. -/
def State.parkExit (s : State) : State :=
  let s := { s with management := { s.management with mode := .run } }
  let s := s.rederiveAll
  s.captureParkExit.eachDomain State.exitWake

/-! ### Resets (R101, R173) -/

/-- The management values that a management reset leaves: the strap value, the park clock, the moment of the park second
and the park epoch are kept (R173). -/
def Management.afterReset (m : Management) : Management :=
  { m with
    mode := .run
    prepared := false
    resetPending := false
    resetDeadline := none
    injection := [] }

/-- The RESET wake of D0, class 0 (R101). -/
def State.resetWake (s : State) : State := s.wakeRequest Domain.D0 0 .reset

/-- The management reset, taken as one event (R173). -/
def State.managementReset (s : State) : State :=
  (State.blocksAtReset s.management.afterReset s.timeBase s.pending).resetWake

/-- The power-on reset with the strap pins at `strap` (R161, R173). The time base starts at 0 (assumption log 1). -/
def State.powerOn (s : State) (strap : BitVec 3) : State :=
  (State.blocksAtReset (Management.atPowerOn strap) 0 s.pending).resetWake

end Sys2Proof.Machine
end

