-- ==== Sys2Proof/Machine/EngineOps.lean ====
section
/-!
DEFINITION. The Match Arbiter's grant (R21), matching and the match result (R26 to R33), the coincidence groups (R47 to
R51), and the commit of the staged table (R41).
-/

namespace Sys2Proof.Machine

/-- The state with the Match Engine changed. -/
def State.updEngine (s : State) (f : Engine → Engine) : State := { s with engine := f s.engine }

/-! ### Match Arbiter -/

/-- The queue that presents the records of an input, by its place in round-robin order: B, S0 to S5, L, T, I (R1). -/
def State.inputQueue (s : State) (i : Fin 10) : List FrameRecord :=
  if h : i.val < 7 then (s.port ⟨i.val, h⟩).rx
  else if i.val = 7 then s.lineUnit.queue
  else if i.val = 8 then s.timerUnit.queue
  else s.management.injection

/-- The oldest record leaves the queue of an input (R1). -/
def State.dropOldest (s : State) (i : Fin 10) : State :=
  if h : i.val < 7 then s.updPort ⟨i.val, h⟩ (fun u => { u with rx := u.rx.drop 1 })
  else if i.val = 7 then { s with lineUnit := { s.lineUnit with queue := s.lineUnit.queue.drop 1 } }
  else if i.val = 8 then { s with timerUnit := { s.timerUnit with queue := s.timerUnit.queue.drop 1 } }
  else { s with management := { s.management with injection := s.management.injection.drop 1 } }

/-- The inputs in the order in which a grant considers them: the circular order from the pointer (R21). -/
def grantOrder (pointer : Fin 10) : List (Fin 10) := (List.finRange 10).map (fun k => pointer + k)

/-- The input that a grant would take: the first, from the pointer on, that holds a record (R21). -/
def State.nextInput (s : State) : Option (Fin 10) :=
  (grantOrder s.pointer).find? (fun i => !(s.inputQueue i).isEmpty)

/-- The Match Arbiter grants the engine when no evaluation is in flight, no commit is pending and an input holds a
record: the oldest record of the input becomes the record in flight, and the pointer moves past the input (R21, R40). -/
def State.grantMatch (s : State) : State :=
  if s.engine.inFlight.isSome || s.engine.commitPending then s
  else
    match s.nextInput with
    | some i =>
      { (s.dropOldest i).updEngine (fun e => { e with inFlight := (s.inputQueue i).head? }) with pointer := i + 1 }
    | none => s

/-! ### Matching -/

/-- The bit of a source in a sources set: the port code of a port, 7 for L and 8 for T (R25, R176). -/
def sourceBit (src : Source) : Nat := sourceCode src

/-- Whether the modes field of a row admits the part's mode (R27). -/
def RowModes.admits (m : RowModes) (mode : Mode) : Bool :=
  match m, mode with
  | .both, _ => true
  | .run, .run => true
  | .park, .park => true
  | _, _ => false

/-- Whether a data test passes: the record carries the byte, and the byte agrees with the value under the mask (R28). -/
def DataTest.passes (t : DataTest) (data : List Byte) : Bool :=
  match data[t.index.val]? with
  | some b => (b &&& t.mask) == (t.value &&& t.mask)
  | none => false

/-- Whether a row matches a record in a mode (R27). -/
def Row.matches (row : Row) (mode : Mode) (r : FrameRecord) : Bool :=
  row.valid && row.sources.getLsbD (sourceBit r.source) && row.modes.admits mode &&
    (r.ident &&& row.mask) == (row.ident &&& row.mask) &&
    match row.test with
    | some t => t.passes r.data
    | none => true

/-- The rows that match a record, in ascending order (R27). -/
def State.matching (s : State) (r : FrameRecord) : List RowIx :=
  (List.finRange 128).filter (fun i => (s.engine.active.rows.get i).matches s.mode r)

/-- Whether a row is a plain row: veto no and group absent (R26). -/
def Row.plain (row : Row) : Bool := !row.veto && row.group.isNone

/-- Whether a row is a veto row: veto yes and group absent (R26). -/
def Row.vetoing (row : Row) : Bool := row.veto && row.group.isNone

/-! ### The match result (R30 to R33) -/

/-- The forward set: the union over the matching rows, less the record's source; empty for an injected record and for a
record from L or T (R30). -/
def forwardSet (rows : List Row) (r : FrameRecord) : PortSet :=
  match r.source, r.injected with
  | .port p, false => withoutPort (rows.foldl (fun acc row => acc ||| row.forward) 0) p
  | _, _ => 0

/-- The union of the wake sets of the rows that a test picks (R31). -/
def wakeUnion (rows : List Row) (f : Row → Bool) : DomainSet :=
  (rows.filter f).foldl (fun acc row => acc ||| row.wake) 0

/-- The domains that get a direct wake request: those in W and not in V (R31). -/
def directWakes (rows : List Row) : DomainSet := wakeUnion rows Row.plain &&& ~~~wakeUnion rows Row.vetoing

/-- The lowest class number of a list, 3 for none. -/
def lowestClass (cs : List WakeClass) : WakeClass := cs.foldl (fun acc c => if c < acc then c else acc) 3

/-- The record flag: a matching row has record yes, the mode is PARK, and the record is not injected (R33). -/
def recordFlag (rows : List Row) (mode : Mode) (r : FrameRecord) : Bool :=
  rows.any (fun row => row.record) && mode == .park && !r.injected

/-! ### Coincidence groups -/

/-- The list after a contribution of a row: the row's older entry is gone and its new entry stands at the tail
(R49). -/
def contribute (l : List Contribution) (row : RowIx) (now : Nat) : List Contribution :=
  l.filter (fun e => e.row != row) ++ [{ row := row, taken := now }]

/-- The state with a group's contribution list set (R48). -/
def State.setContributions (s : State) (g : GroupIx) (l : List Contribution) : State :=
  { s with contributions := s.contributions.set g l }

/-- A group fires: its list is emptied, and one wake request of the group's class is handed to admission for each domain
of its wake set (R51). -/
def State.fireGroup (s : State) (g : GroupIx) : State :=
  let gd := s.engine.active.groups.get g
  (s.setContributions g []).eachDomain (fun s d => if hasDomain gd.wake d then s.wakeRequest d gd.cls (.group g) else s)

/-- A contribution of a row is taken into its group's list, which fires when it reaches the threshold; a contribution to
a disabled group is discarded (R47, R49, R51). -/
def State.takeContribution (s : State) (g : GroupIx) (row : RowIx) : State :=
  let gd := s.engine.active.groups.get g
  if gd.enabled then
    let l := contribute (s.contributions.get g) row s.timeBase
    if gd.threshold ≤ l.length then s.fireGroup g else s.setContributions g l
  else s

/-! ### The steps of evaluation completion (R24) -/

/-- Step 1: the hit count of every matching row is incremented (R35). -/
def State.countHits (s : State) (rows : List RowIx) : State :=
  s.updEngine (fun e =>
    { e with hits := rows.foldl (fun h i => h.modify i (satInc Config.counterMax)) e.hits })

/-- A record that no row matches is counted on the port that is its source (R29). -/
def State.countUnmatched (s : State) (rows : List RowIx) (r : FrameRecord) : State :=
  match rows, r.source with
  | [], .port p => s.updPort p PortUnit.countUnmatched
  | _, _ => s

/-- Step 2: a record from a port is offered to the Domain Controller (R34). -/
def State.recogniseRecord (s : State) (r : FrameRecord) : State :=
  match r.source with
  | .port p => s.offerToDomains p r.ident
  | _ => s

/-- Step 3: one frame entry is offered to each port of the forward set (R30). -/
def State.forwardRecord (s : State) (fs : PortSet) (r : FrameRecord) : State :=
  (List.finRange 7).foldl
    (fun s p => if hasPort fs p then s.updPort p (fun u => u.offerForward (.frame r.ident r.data false)) else s) s

/-- The ports of the forward set whose forward queue appends the entry, judged where step 3 begins: an offer to one port
changes no other (R33). -/
def State.deliveredLive (s : State) (fs : PortSet) : PortSet :=
  portSetWhere (fun p => hasPort fs p && (s.port p).takesForward)

/-- Step 5: the direct wake request of one domain, when the result makes one (R31). -/
def State.directWake (s : State) (ixs : List RowIx) (d : Domain) : State :=
  let row := fun i => s.engine.active.rows.get i
  let naming := ixs.filter (fun i => (row i).plain && hasDomain (row i).wake d)
  if hasDomain (directWakes (ixs.map row)) d then
    match naming with
    | i :: _ => s.wakeRequest d (lowestClass (naming.map (fun i => (row i).cls))) (.rule i)
    | [] => s
  else s

/-- Step 6: the contribution of one matching row, when it is a grouped row (R32). -/
def State.contributeRow (s : State) (i : RowIx) : State :=
  match (s.engine.active.rows.get i).group with
  | some g => s.takeContribution g i
  | none => s

/-- Steps 3 and 4: forwarding, and then the recording of the frame with the ports that took it live (R24, R33). -/
def State.forwardAndRecord (s : State) (ixs : List RowIx) (r : FrameRecord) : State :=
  let rows := ixs.map (fun i => s.engine.active.rows.get i)
  let fs := forwardSet rows r
  let sent := s.forwardRecord fs r
  if recordFlag rows s.mode r then
    sent.recordFrame { record := r, forward := fs, delivered := s.deliveredLive fs }
  else sent

/-- The completion of a match evaluation of a record: the six steps of R24 in order, and then the closing of a buffer
whose post frames are complete (R24, R29, R148). -/
def State.complete (s : State) (r : FrameRecord) : State :=
  let ixs := s.matching r
  let s := (s.countHits ixs).countUnmatched ixs r
  let s := (s.recogniseRecord r).forwardAndRecord ixs r
  let s := s.eachDomain (fun s d => s.directWake ixs d)
  State.closeIfComplete (ixs.foldl State.contributeRow s)

/-! ### Commit (R41) -/

/-- Commit completion, in one event (R41). -/
def State.commit (s : State) : State :=
  { s.updEngine (fun e =>
      { e with
        active := e.staging
        hits := Tab.replicate 128 0
        latch := false
        commitPending := false }) with
    contributions := Tab.replicate 8 [] }

/-- Commit completion is taken when a commit is pending and no evaluation is in flight (R41). -/
def State.commitIfReady (s : State) : State :=
  if s.engine.commitPending && s.engine.inFlight.isNone then s.commit else s

end Sys2Proof.Machine
end

