-- ==== Sys2Proof/Machine/Management.lean ====
section
/-!
DEFINITION. The requests of the Management Unit: Identify, Read Status, Set Clock, Inject Frame, Reset Prepare, Reset and
a request that is none of the part's (R163, R167 to R172), and the two park requests (R112, R115).
-/

namespace Sys2Proof.Machine

/-- The outcome of a command that takes the request frame with code `code`, the tag and the arguments, executed by
`manage` while port B is ACTIVE (R162). -/
def takeRequest (code tag : Byte) (args : List Byte) (manage : Byte → List Byte → State → State) (s : State) :
    Host.Outcome State Fault Refusal :=
  .next (s.requestFrame (code :: tag :: frameArgs args) (manage tag (frameArgs args)))

/-! ### Requests that are none of the part's (R163) -/

/-- A request frame without a tag, or with an unknown code, is answered LENGTH or UNKNOWN, and clears the reset-prepared
flag (R163, R171). THE MODEL'S CHOICE (assumption log 27): so does a Reset Prepare frame without a tag. -/
def manageUnknown (data : List Byte) (s : State) : State :=
  let s := s.setPrepared false
  match data with
  | [] => s.respond 0 0 (.bare .length)
  | [code] => s.respond code 0 (.bare .length)
  | code :: tag :: _ => s.respond code tag (.bare .unknown)

/-! ### Identify (R167, R178) -/

/-- The data of the Identify response (R167, R178). -/
def identifyBytes (s : State) : List Byte :=
  beBytes 2 (Config.partNumber * 16 + Config.designRevision) ++
    [oneByte (s.management.strap.toNat + 16 * (7 - 1)),
     oneByte ((12 - 1) + 16 * (16 - 1)),
     oneByte ((8 - 1) + 8 * (8 - 1) + 64 * (128 / 64 - 1))]

/-- Identify (R167). -/
def answerIdentify (s : State) : State × Answer := (s, .okay (identifyBytes s))

/-- The Identify request at the Management Unit. -/
def manageIdentify (tag : Byte) (args : List Byte) (s : State) : State :=
  s.manage 0x01 tag args 0 answerIdentify

/-- IDENTIFY (R167). -/
def execIdentify (tag : Byte) (args : List Byte) (s : State) : Host.Outcome State Fault Refusal :=
  takeRequest 0x01 tag args manageIdentify s

/-! ### Read Status (R168, R178) -/

/-- The state codes of D0 to D11 as a 40-bit value, three bits for each domain (R178). -/
def domainStates (s : State) : Nat :=
  (List.finRange 12).foldl (fun acc d => acc + domainStateCode (s.dom d).state * 2 ^ (3 * d.val)) 0

/-- The data of a part of Read Status, by part code (R168, R178). -/
def statusBytes (s : State) (part : Nat) : Option (List Byte) :=
  match part with
  | 0 => some ([modeCode s.mode, tierCode s.account.tier] ++ beBytes 2 s.management.epoch.toNat)
  | 1 => some [oneByte (boolBit s.engine.latch + 2 * boolBit s.engine.commitPending), oneByte s.engine.boundary]
  | 2 => some [oneByte s.causes.records.length, oneByte s.causes.overflow]
  | 3 => some (beBytes 4 s.clock.toNat)
  | 4 => some (beBytes 5 (domainStates s))
  | _ => none

/-- An answer that reads: OK with the data, or INDEX where nothing is named. -/
def readAnswer (s : State) (data : Option (List Byte)) : State × Answer :=
  match data with
  | some d => (s, .okay d)
  | none => (s, .bare .index)

/-- Read Status (R168). -/
def answerReadStatus (args : List Byte) (s : State) : State × Answer :=
  readAnswer s (statusBytes s (argByte args 2).toNat)

/-- The Read Status request at the Management Unit. -/
def manageReadStatus (tag : Byte) (args : List Byte) (s : State) : State :=
  s.manage 0x02 tag args 1 (answerReadStatus args)

/-- READ_STATUS (R168). -/
def execReadStatus (tag : Byte) (args : List Byte) (s : State) : Host.Outcome State Fault Refusal :=
  takeRequest 0x02 tag args manageReadStatus s

/-! ### Set Clock (R169) -/

/-- The value of four argument bytes (R174). -/
def clockArg (args : List Byte) : BitVec 32 := BitVec.ofNat 32 (argWord args 2 * 65536 + argWord args 4)

/-- Set Clock (R169). -/
def answerSetClock (args : List Byte) (s : State) : State × Answer :=
  ({ s with management := { s.management with clock := clockArg args } },
   .okay (beBytes 4 (clockArg args).toNat))

/-- The Set Clock request at the Management Unit. -/
def manageSetClock (tag : Byte) (args : List Byte) (s : State) : State :=
  s.manage 0x03 tag args 4 (answerSetClock args)

/-- SET_CLOCK (R169). -/
def execSetClock (tag : Byte) (args : List Byte) (s : State) : Host.Outcome State Fault Refusal :=
  takeRequest 0x03 tag args manageSetClock s

/-! ### Inject Frame (R170, R178) -/

/-- The identifier of an Inject Frame request: bits 11 to 0 of bytes 3 and 4 (R178). -/
def injectIdent (args : List Byte) : Nat := argWord args 3 % 4096

/-- The data length of an Inject Frame request: bits 15 to 12 of bytes 3 and 4 (R178). -/
def injectLength (args : List Byte) : Nat := argWord args 3 / 4096

/-- The record that Inject Frame makes (R2, R170). -/
def injectRecord (s : State) (p : Port) (i : Ident) (args : List Byte) : FrameRecord where
  source := .port p
  ident := i
  data := (args.drop 3).take (injectLength args)
  arrival := s.clock
  overrunMark := false
  injected := true

/-- Inject Frame (R170). -/
def answerInjectFrame (args : List Byte) (s : State) : State × Answer :=
  match asPort (argByte args 2).toNat with
  | none => (s, .bare .index)
  | some p =>
    match asIdent (injectIdent args) with
    | none => (s, .bare .value)
    | some i =>
      if 3 < injectLength args then (s, .bare .value)
      else if args.length < 3 + injectLength args then (s, .bare .length)
      else if Config.injectionQueue ≤ s.management.injection.length then (s, .bare .busy)
      else
        ({ s with
            management := { s.management with
              injection := s.management.injection ++ [injectRecord s p i args] } },
         .okay [oneByte (s.management.injection.length + 1)])

/-- The Inject Frame request at the Management Unit. -/
def manageInjectFrame (tag : Byte) (args : List Byte) (s : State) : State :=
  s.manage 0x38 tag args 3 (answerInjectFrame args)

/-- INJECT_FRAME (R170). -/
def execInjectFrame (tag : Byte) (args : List Byte) (s : State) : Host.Outcome State Fault Refusal :=
  takeRequest 0x38 tag args manageInjectFrame s

/-! ### Reset Prepare and Reset (R171, R172) -/

/-- The Reset Prepare request at the Management Unit: it sets the reset-prepared flag and is answered OK (R171). -/
def manageResetPrepare (tag : Byte) (_args : List Byte) (s : State) : State :=
  (s.setPrepared true).respond 0x3E tag (.bare .ok)

/-- RESET_PREPARE (R171). -/
def execResetPrepare (tag : Byte) (args : List Byte) (s : State) : Host.Outcome State Fault Refusal :=
  takeRequest 0x3E tag args manageResetPrepare s

/-- The state in which an accepted Reset waits: the reset-prepared flag cleared, the reset-pending flag set, and the
deadline started (R172). -/
def State.resetWaiting (s : State) : State :=
  { s with
    management := { s.management with
      prepared := false
      resetPending := true
      resetDeadline := some Config.resetDeadline } }

/-- The Reset request at the Management Unit. Without the reset-prepared flag it is refused SEQUENCE. With it, its
response is offered; a response dropped at its offer brings about the management reset at once (R172). -/
def manageReset (tag : Byte) (_args : List Byte) (s : State) : State :=
  if s.management.prepared then
    let offered := s.resetWaiting.updPort Port.B (fun u =>
      u.offerManagement (s.responseEntry 0x3F tag (.bare .ok) true))
    if (s.port Port.B).frameEntries < Config.forwardQueue then offered else offered.managementReset
  else s.respond 0x3F tag (.bare .sequence)

/-- RESET (R172). -/
def execReset (tag : Byte) (args : List Byte) (s : State) : Host.Outcome State Fault Refusal :=
  takeRequest 0x3F tag args manageReset s

/-! ### Park Enter and Park Exit (R112, R113, R115, R116) -/

/-- Park Enter: the transition is taken whole before the response is offered (R112, R113). -/
def answerParkEnter (s : State) : State × Answer :=
  match s.mode with
  | .run => (s.parkEnter, .bare .ok)
  | .park => (s, .bare .state)

/-- The Park Enter request at the Management Unit. -/
def manageParkEnter (tag : Byte) (args : List Byte) (s : State) : State :=
  s.manage 0x04 tag args 0 answerParkEnter

/-- PARK_ENTER (R112, R113). -/
def execParkEnter (tag : Byte) (args : List Byte) (s : State) : Host.Outcome State Fault Refusal :=
  takeRequest 0x04 tag args manageParkEnter s

/-- Park Exit: the transition and its wake requests are taken whole before the response is offered (R115). -/
def answerParkExit (s : State) : State × Answer :=
  match s.mode with
  | .park => (s.parkExit, .bare .ok)
  | .run => (s, .bare .state)

/-- The Park Exit request at the Management Unit. -/
def manageParkExit (tag : Byte) (args : List Byte) (s : State) : State :=
  s.manage 0x05 tag args 0 answerParkExit

/-- PARK_EXIT (R115, R116). -/
def execParkExit (tag : Byte) (args : List Byte) (s : State) : Host.Outcome State Fault Refusal :=
  takeRequest 0x05 tag args manageParkExit s

end Sys2Proof.Machine
end

