-- ==== Sys2Proof/Machine/Tables.lean ====
section
/-!
DEFINITION. The requests on the Rule Table and the group definitions (R36 to R43, R46, R176), commit completion (R41), and
the expiry of contributions (R50).
-/

namespace Sys2Proof.Machine

/-! ### The table-write latch (R38) -/

/-- Table Write Enable (R38). -/
def answerTableWriteEnable (s : State) : State × Answer :=
  (s.updEngine (fun e => { e with latch := true }), .bare .ok)

/-- The Table Write Enable request at the Management Unit. -/
def manageTableWriteEnable (tag : Byte) (args : List Byte) (s : State) : State :=
  s.manage 0x08 tag args 0 answerTableWriteEnable

/-- TABLE_WRITE_ENABLE (R38). -/
def execTableWriteEnable (tag : Byte) (args : List Byte) (s : State) : Host.Outcome State Fault Refusal :=
  takeRequest 0x08 tag args manageTableWriteEnable s

/-- Table Write Disable, refused BUSY while a commit is pending (R38). -/
def answerTableWriteDisable (s : State) : State × Answer :=
  if s.engine.commitPending then (s, .bare .busy)
  else (s.updEngine (fun e => { e with latch := false }), .bare .ok)

/-- The Table Write Disable request at the Management Unit. -/
def manageTableWriteDisable (tag : Byte) (args : List Byte) (s : State) : State :=
  s.manage 0x09 tag args 0 answerTableWriteDisable

/-- TABLE_WRITE_DISABLE (R38). -/
def execTableWriteDisable (tag : Byte) (args : List Byte) (s : State) : Host.Outcome State Fault Refusal :=
  takeRequest 0x09 tag args manageTableWriteDisable s

/-! ### Staging a row (R36, R37, R176) -/

/-- The refusal of a staging write or commit for a pending commit or a clear latch, if one applies (R37, R39). -/
def State.stagingClosed (s : State) : Option Reply :=
  if s.engine.commitPending then some .busy
  else if s.engine.latch then none
  else some .latch

/-- The state with one row of the staging copy changed (R36). -/
def State.stageRow (s : State) (i : RowIx) (f : Row → Row) : State :=
  s.updEngine (fun e => { e with staging := { e.staging with rows := e.staging.rows.modify i f } })

/-- A row write in the order of R37: index, commit pending, latch, protection, field values, and then the write of the
part that the arguments give. -/
def answerStageRow (part : Option (Row → Row)) (args : List Byte) (s : State) : State × Answer :=
  match asRow (argByte args 2).toNat with
  | none => (s, .bare .index)
  | some i =>
    match s.stagingClosed with
    | some refusal => (s, .bare refusal)
    | none =>
      if i.val < s.engine.boundary then (s, .bare .protectedRow)
      else
        match part with
        | none => (s, .bare .value)
        | some f => (s.stageRow i f, .bare .ok)

/-- The 24-bit value in bytes 5 to 7 of a match part: identifier in bits 23 to 12, mask in bits 11 to 0 (R176). -/
def identMaskArg (args : List Byte) : Nat := (argByte args 5).toNat * 65536 + argWord args 6

/-- The sources set of a match part: byte 4, whose bit 7 stands for L, and bit 2 of byte 3 for T (R176). -/
def sourcesArg (args : List Byte) : BitVec 9 :=
  BitVec.ofNat 9 ((argByte args 4).toNat + 256 * bitField (argByte args 3) 2 1)

/-- The match part that the arguments give, absent where a field is out of range (R37, R176). -/
def matchPart (args : List Byte) : Option (Row → Row) :=
  match asIdent (identMaskArg args / 4096), asIdent (identMaskArg args % 4096),
    asRowModes (bitField (argByte args 3) 0 2) with
  | some i, some m, some modes =>
    some (fun row =>
      { row with
        valid := (argByte args 3).getLsbD 7
        sources := sourcesArg args
        ident := i
        mask := m
        modes := modes })
  | _, _, _ => none

/-- The data-test part that the arguments give. The byte index, value and mask carry no field while the part says
absent, so they are not checked then (R37, R174, R176). -/
def dataTestPart (args : List Byte) : Option (Row → Row) :=
  if (argByte args 3).getLsbD 7 then
    if h : bitField (argByte args 3) 0 4 < 8 then
      some (fun row =>
        { row with
          test := some
            { index := ⟨bitField (argByte args 3) 0 4, h⟩
              value := argByte args 4
              mask := argByte args 5 } })
    else none
  else some (fun row => { row with test := none })

/-- The group field of an action part: a group, absent for 0xFF, and out of range otherwise (R176). -/
def groupArg (b : Byte) : Option (Option GroupIx) :=
  if b = 0xFF then some none
  else
    match asGroup b.toNat with
    | some g => some (some g)
    | none => none

/-- The action part that the arguments give, absent where a field is out of range (R37, R176). -/
def actionPart (args : List Byte) : Option (Row → Row) :=
  match asClass (bitField (argByte args 4) 0 3), groupArg (argByte args 5) with
  | some c, some g =>
    some (fun row =>
      { row with
        forward := portSetOf (argByte args 3)
        cls := c
        veto := (argByte args 4).getLsbD 3
        group := g
        record := (argByte args 4).getLsbD 4 })
  | _, _ => none

/-- The wake-set part that the arguments give (R176). -/
def wakeSetPart (args : List Byte) : Option (Row → Row) :=
  some (fun row => { row with wake := domainSetOf (argWord args 3) })

/-- The Stage Row Match request at the Management Unit. -/
def manageStageRowMatch (tag : Byte) (args : List Byte) (s : State) : State :=
  s.manage 0x0A tag args 6 (answerStageRow (matchPart args) args)

/-- STAGE_ROW_MATCH (R36, R37). -/
def execStageRowMatch (tag : Byte) (args : List Byte) (s : State) : Host.Outcome State Fault Refusal :=
  takeRequest 0x0A tag args manageStageRowMatch s

/-- The Stage Row Data Test request at the Management Unit. -/
def manageStageRowDataTest (tag : Byte) (args : List Byte) (s : State) : State :=
  s.manage 0x0B tag args 4 (answerStageRow (dataTestPart args) args)

/-- STAGE_ROW_DATA_TEST (R36, R37). -/
def execStageRowDataTest (tag : Byte) (args : List Byte) (s : State) : Host.Outcome State Fault Refusal :=
  takeRequest 0x0B tag args manageStageRowDataTest s

/-- The Stage Row Action request at the Management Unit. -/
def manageStageRowAction (tag : Byte) (args : List Byte) (s : State) : State :=
  s.manage 0x0C tag args 4 (answerStageRow (actionPart args) args)

/-- STAGE_ROW_ACTION (R36, R37). -/
def execStageRowAction (tag : Byte) (args : List Byte) (s : State) : Host.Outcome State Fault Refusal :=
  takeRequest 0x0C tag args manageStageRowAction s

/-- The Stage Row Wake Set request at the Management Unit. -/
def manageStageRowWakeSet (tag : Byte) (args : List Byte) (s : State) : State :=
  s.manage 0x0D tag args 3 (answerStageRow (wakeSetPart args) args)

/-- STAGE_ROW_WAKE_SET (R36, R37). -/
def execStageRowWakeSet (tag : Byte) (args : List Byte) (s : State) : Host.Outcome State Fault Refusal :=
  takeRequest 0x0D tag args manageStageRowWakeSet s

/-! ### Staging a group (R46, R176) -/

/-- A number brought into a range (R46, R74). -/
def clampTo (low high n : Nat) : Nat := max low (min high n)

/-- The group definition that the arguments give, its threshold and window brought into range (R46, R176). -/
def groupPart (args : List Byte) (c : WakeClass) : GroupDef where
  enabled := (argByte args 3).getLsbD 7
  threshold := clampTo 1 8 (bitField (argByte args 3) 0 4)
  window := clampTo 10 60000 (argWord args 4)
  cls := c
  wake := domainSetOf (argWord args 6)

/-- Whether the threshold or the window of a Stage Group was brought into range (R46). -/
def groupClamped (args : List Byte) : Bool :=
  clampTo 1 8 (bitField (argByte args 3) 0 4) != bitField (argByte args 3) 0 4 ||
    clampTo 10 60000 (argWord args 4) != argWord args 4

/-- Stage Group (R46). -/
def answerStageGroup (args : List Byte) (s : State) : State × Answer :=
  match asGroup (argByte args 2).toNat with
  | none => (s, .bare .index)
  | some g =>
    match s.stagingClosed with
    | some refusal => (s, .bare refusal)
    | none =>
      match asClass (bitField (argByte args 3) 4 3) with
      | none => (s, .bare .value)
      | some c =>
        (s.updEngine (fun e =>
          { e with staging := { e.staging with groups := e.staging.groups.set g (groupPart args c) } }),
         .bare (if groupClamped args then .clamped else .ok))

/-- The Stage Group request at the Management Unit. -/
def manageStageGroup (tag : Byte) (args : List Byte) (s : State) : State :=
  s.manage 0x0E tag args 6 (answerStageGroup args)

/-- STAGE_GROUP (R46). -/
def execStageGroup (tag : Byte) (args : List Byte) (s : State) : Host.Outcome State Fault Refusal :=
  takeRequest 0x0E tag args manageStageGroup s

/-! ### Commit (R39, R41) -/

/-- The Commit Table request at the Management Unit. An accepted request sets the commit-pending flag and offers its
response, and commit completion is then taken at once when no evaluation is in flight (R39). -/
def manageCommitTable (tag : Byte) (_args : List Byte) (s : State) : State :=
  let s := s.setPrepared false
  match s.stagingClosed with
  | some refusal => s.respond 0x0F tag (.bare refusal)
  | none =>
    ((s.updEngine (fun e => { e with commitPending := true })).respond 0x0F tag (.bare .ok)).commitIfReady

/-- COMMIT_TABLE (R39). -/
def execCommitTable (tag : Byte) (args : List Byte) (s : State) : Host.Outcome State Fault Refusal :=
  takeRequest 0x0F tag args manageCommitTable s

/-- COMMIT_COMPLETION (R41). -/
def execCommitCompletion (s : State) : Host.Outcome State Fault Refusal := .next s.commitIfReady

/-! ### Reading the table (R43, R176) -/

/-- The bytes of a match part (R176). -/
def matchBytes (row : Row) : List Byte :=
  [oneByte (128 * boolBit row.valid + 4 * boolBit (row.sources.getLsbD 8) + rowModesCode row.modes),
   row.sources.setWidth 8] ++ beBytes 3 (row.ident.toNat * 4096 + row.mask.toNat)

/-- The bytes of a data-test part; an absent test sends every field as 0 (R174, R176). -/
def dataTestBytes (row : Row) : List Byte :=
  match row.test with
  | some t => [oneByte (128 + t.index.val), t.value, t.mask]
  | none => [0, 0, 0]

/-- The bytes of an action part (R176). -/
def actionBytes (row : Row) : List Byte :=
  [portSetByte row.forward,
   oneByte (row.cls.val + 8 * boolBit row.veto + 16 * boolBit row.record),
   optionByte (row.group.map (fun g => g.val))]

/-- The bytes of a wake-set part (R176). -/
def wakeSetBytes (row : Row) : List Byte := domainSetBytes row.wake

/-- The bytes of a group definition (R176). -/
def groupBytes (g : GroupDef) : List Byte :=
  oneByte (128 * boolBit g.enabled + 16 * g.cls.val + g.threshold) ::
    beBytes 2 g.window ++ domainSetBytes g.wake

/-- The bytes of a part of a copy of the table, absent where the part or the index does not exist (R43, R176). -/
def tablePartBytes (t : Table) (part index : Nat) : Option (List Byte) :=
  match part with
  | 0 => (asRow index).map (fun i => matchBytes (t.rows.get i))
  | 1 => (asRow index).map (fun i => dataTestBytes (t.rows.get i))
  | 2 => (asRow index).map (fun i => actionBytes (t.rows.get i))
  | 3 => (asRow index).map (fun i => wakeSetBytes (t.rows.get i))
  | 4 => (asGroup index).map (fun g => groupBytes (t.groups.get g))
  | _ => none

/-- The copy that a selector names (R176). -/
def tableCopy (s : State) (selector : Nat) : Option Table :=
  match selector with
  | 0 => some s.engine.active
  | 1 => some s.engine.staging
  | _ => none

/-- Read Row Part. Where both the selector and the part or index are refused, R43 does not say which refusal answers
(assumption log 9). -/
def answerReadRowPart (args : List Byte) (s : State) : State × Answer :=
  let part := (argByte args 3).toNat
  let index := (argByte args 4).toNat
  match tableCopy s (argByte args 2).toNat with
  | some t => readAnswer s (tablePartBytes t part index)
  | none =>
    match tablePartBytes s.engine.active part index with
    | some _ => (s, .bare .value)
    | none => (s, .bare (if Config.rowReadIndexFirst then .index else .value))

/-- The Read Row Part request at the Management Unit. -/
def manageReadRowPart (tag : Byte) (args : List Byte) (s : State) : State :=
  s.manage 0x10 tag args 3 (answerReadRowPart args)

/-- READ_ROW_PART (R43). -/
def execReadRowPart (tag : Byte) (args : List Byte) (s : State) : Host.Outcome State Fault Refusal :=
  takeRequest 0x10 tag args manageReadRowPart s

/-- The hit count of a row number, 0 for row 128 (R43). -/
def State.hitCount (s : State) (n : Nat) : Nat :=
  match asRow n with
  | some i => s.engine.hits.get i
  | none => 0

/-- Read Hits (R43). -/
def answerReadHits (args : List Byte) (s : State) : State × Answer :=
  let n := (argByte args 2).toNat
  readAnswer s (if n < 128 then some (beBytes 2 (s.hitCount n) ++ beBytes 2 (s.hitCount (n + 1))) else none)

/-- The Read Hits request at the Management Unit. -/
def manageReadHits (tag : Byte) (args : List Byte) (s : State) : State :=
  s.manage 0x11 tag args 1 (answerReadHits args)

/-- READ_HITS (R43). -/
def execReadHits (tag : Byte) (args : List Byte) (s : State) : Host.Outcome State Fault Refusal :=
  takeRequest 0x11 tag args manageReadHits s

/-! ### The protect boundary (R42) -/

/-- The rows of the staging copy from row `low` to row `high - 1` set equal to the active rows (R42). -/
def protectRows (active staging : Tab Row 128) (low high : Nat) : Tab Row 128 :=
  Tab.ofFn (fun i => if low ≤ i.val ∧ i.val < high then active.get i else staging.get i)

/-- Set Protect Boundary (R42). -/
def answerSetProtectBoundary (args : List Byte) (s : State) : State × Answer :=
  let n := (argByte args 2).toNat
  if 128 < n then (s, .bare .value)
  else if s.engine.commitPending then (s, .bare .busy)
  else if n < s.engine.boundary then (s, .bare .value)
  else
    (s.updEngine (fun e =>
      { e with
        boundary := n
        staging := { e.staging with rows := protectRows e.active.rows e.staging.rows e.boundary n } }),
     .okay [oneByte n])

/-- The Set Protect Boundary request at the Management Unit. -/
def manageSetProtectBoundary (tag : Byte) (args : List Byte) (s : State) : State :=
  s.manage 0x12 tag args 1 (answerSetProtectBoundary args)

/-- SET_PROTECT_BOUNDARY (R42). -/
def execSetProtectBoundary (tag : Byte) (args : List Byte) (s : State) : Host.Outcome State Fault Refusal :=
  takeRequest 0x12 tag args manageSetProtectBoundary s

/-! ### Contribution expiry (R50) -/

/-- Whether an entry that a group took at a time has reached the group's window: the 1 millisecond base has reached its
time taken plus W, by the active definition (R45, R50). -/
def State.windowReached (s : State) (g : GroupIx) (taken : Nat) : Bool :=
  decide (taken + (s.engine.active.groups.get g).window ≤ s.timeBase)

/-- CONTRIBUTION_EXPIRY: the entries of a group's list that were taken at the time `taken` are removed together once they
reach the group's window; before that moment, and where no such entry stands, the expiry has no effect (R50, R53). -/
def execContributionExpiry (g : GroupIx) (taken : Nat) (s : State) : Host.Outcome State Fault Refusal :=
  if s.windowReached g taken then
    .next (s.setContributions g ((s.contributions.get g).filter (fun e => e.taken != taken)))
  else .next s

/-- Every entry that has reached its group's window is removed (R50). -/
def State.expireContributions (s : State) : State :=
  { s with
    contributions := Tab.ofFn (fun g => (s.contributions.get g).filter (fun e => !s.windowReached g e.taken)) }

end Sys2Proof.Machine
end

