-- ==== Sys2Proof/Machine/Domains.lean ====
section
/-!
DEFINITION. The requests on domains (R74, R94 to R96, R100, R177), on the slots (R108), and the domain and slot events
(R79, R81, R92, R105, R106).
-/

namespace Sys2Proof.Machine

/-! ### Set Domain Parameter (R74, R136, R177) -/

/-- An identifier parameter of a value: absent for 0xFFFF, an identifier up to 0x7FF, and out of range otherwise
(R74). -/
def optionalIdent (v : Nat) : Option (Option Ident) :=
  if v = 0xFFFF then some none
  else
    match asIdent v with
    | some i => some (some i)
    | none => none

/-- The activity parameter of an identifier and a mask: absent for 0xFFFF whatever the mask, and out of range where
either is above 0x7FF (R74). -/
def activityOf (v m : Nat) : Option (Option (Ident × Ident)) :=
  if v = 0xFFFF then some none
  else
    match asIdent v, asIdent m with
    | some i, some mask => some (some (i, mask))
    | _, _ => none

/-- The port that a domain may be attached to by a port code: B for D0 alone, and S0 to S5 for the others (R74). -/
def portFor (d : Domain) (v : Nat) : Option Port :=
  match asPort v with
  | some p => if (d = Domain.D0 ↔ p = Port.B) then some p else none
  | none => none

/-- The parameters after a value `v` with mask `m` is written at a parameter code, absent where the value is refused
VALUE (R74, R177). Numeric values are brought into range. -/
def paramWrite (d : Domain) (q : DomainParams) (code v m : Nat) : Option DomainParams :=
  match code with
  | 0 =>
    match v with
    | 0 => some { q with enabled := false }
    | 1 => some { q with enabled := true }
    | _ => none
  | 1 => (portFor d v).map (fun p => { q with port := p })
  | 2 => (asReadyMode v).map (fun r => { q with readyMode := r })
  | 3 => some { q with awakeCurrent := clampTo 0 4095 v }
  | 4 => some { q with sleepCurrent := clampTo 0 4095 v }
  | 5 => some { q with rampCharge := clampTo 0 65535 v }
  | 6 => some { q with minAwake := clampTo 0 3600 v }
  | 7 => some { q with idleTimeout := clampTo 1 3600 v }
  | 8 => some { q with readyTimeout := clampTo 10 10000 v }
  | 9 => some { q with readyRetries := clampTo 0 3 v }
  | 10 => some { q with windTimeout := clampTo 10 10000 v }
  | 11 => some { q with slotHold := clampTo 0 5000 v }
  | 12 => (optionalIdent v).map (fun i => { q with announceId := i })
  | 13 => (optionalIdent v).map (fun i => { q with faultId := i })
  | 14 => (optionalIdent v).map (fun i => { q with noticeId := i })
  | 15 => (optionalIdent v).map (fun i => { q with sleepReadyId := i })
  | 16 => (activityOf v m).map (fun a => { q with activity := a })
  | 17 => some { q with tokenCap := clampTo 1 15 v }
  | 18 => some { q with refill := clampTo 1 1440 v }
  | _ => none

/-- The value of a parameter by its code (R177). -/
def paramValue (q : DomainParams) (code : Nat) : Nat :=
  match code with
  | 0 => boolBit q.enabled
  | 1 => q.port.val
  | 2 => readyModeCode q.readyMode
  | 3 => q.awakeCurrent
  | 4 => q.sleepCurrent
  | 5 => q.rampCharge
  | 6 => q.minAwake
  | 7 => q.idleTimeout
  | 8 => q.readyTimeout
  | 9 => q.readyRetries
  | 10 => q.windTimeout
  | 11 => q.slotHold
  | 12 => identWord q.announceId
  | 13 => identWord q.faultId
  | 14 => identWord q.noticeId
  | 15 => identWord q.sleepReadyId
  | 16 => identWord (q.activity.map Prod.fst)
  | 17 => q.tokenCap
  | _ => q.refill

/-- The mask of a parameter by its code: that of a present activity parameter, and 0 otherwise (R174, R177). -/
def paramMask (q : DomainParams) (code : Nat) : Nat :=
  match code, q.activity with
  | 16, some (_, m) => m.toNat
  | _, _ => 0

/-- The data that report a parameter (R177). -/
def paramBytes (q : DomainParams) (code : Nat) : List Byte :=
  oneByte code :: beBytes 2 (paramValue q code) ++ beBytes 2 (paramMask q code)

/-- Whether a parameter code is that of a numeric value, which is brought into range and not refused (R74). -/
def numericParam (code : Nat) : Bool := (3 ≤ code && code ≤ 11) || code == 17 || code == 18

/-- The token state after the token cap changes from `old` to `new` (R136). -/
def TokenRec.capChange (t : TokenRec) (old new refill : Nat) (mode : Mode) : TokenRec :=
  if new < old then
    if new < t.tokens then { tokens := new, countdown := none }
    else if new = t.tokens then { t with countdown := none }
    else t
  else if old < new ∧ mode = .park ∧ t.countdown = none ∧ t.tokens < new then
    { t with countdown := some (60 * refill) }
  else t

/-- The effects of a change of a domain's parameters from `old` to `new`: the record takes them, a change of the enabled
flag to no disables the domain (R76), and a change of the token cap acts on its tokens (R136). -/
def State.setParams (s : State) (d : Domain) (old new : DomainParams) : State :=
  let s := s.updDom d (fun r => { r with params := new })
  let s := if old.enabled && !new.enabled then s.disable d else s
  s.updTokens d (fun t => t.capChange old.tokenCap new.tokenCap new.refill s.mode)

/-- Set Domain Parameter (R74). -/
def answerSetDomainParameter (args : List Byte) (s : State) : State × Answer :=
  let code := (argByte args 3).toNat
  match asDomain (argByte args 2).toNat with
  | none => (s, .bare .index)
  | some d =>
    let q := (s.dom d).params
    if 18 < code then (s, .bare .index)
    else if (code = 1 ∨ code = 2) ∧ (s.dom d).state ≠ .asleep then (s, .bare .state)
    else
      match paramWrite d q code (argWord args 4) (argWord args 6) with
      | none => (s, .bare .value)
      | some new =>
        (s.setParams d q new,
         { reply := if numericParam code && paramValue new code != argWord args 4 then .clamped else .ok
           data := paramBytes new code })

/-- The Set Domain Parameter request at the Management Unit. -/
def manageSetDomainParameter (tag : Byte) (args : List Byte) (s : State) : State :=
  s.manage 0x18 tag args 6 (answerSetDomainParameter args)

/-- SET_DOMAIN_PARAMETER (R74). -/
def execSetDomainParameter (tag : Byte) (args : List Byte) (s : State) : Host.Outcome State Fault Refusal :=
  takeRequest 0x18 tag args manageSetDomainParameter s

/-! ### Read Domain (R100, R177) -/

/-- The STATE part (R177). -/
def domainStateBytes (r : DomainRec) (tokens : Nat) : List Byte :=
  [oneByte (domainStateCode r.state), classByte r.wakeClass,
   oneByte (r.retriesUsed + 4 * boolBit r.slotHeld + 16 * noticeCode r.notice), oneByte tokens]

/-- The TIMERS part for a timer that is stopped or running (R177). -/
def timerBytes (t : Option Nat) : List Byte :=
  match t with
  | some n => 1 :: beBytes 2 n
  | none => 0 :: beBytes 2 0

/-- The TIMERS part for the min-awake timer, elapsed or running (R177). -/
def minAwakeBytes (t : Option Nat) : List Byte :=
  match t with
  | some n => 1 :: beBytes 2 (secondsLeft n)
  | none => 2 :: beBytes 2 0

/-- The TIMERS part for the idle timer (R177). -/
def idleBytes (t : IdleTimer) : List Byte :=
  match t with
  | .stopped => 0 :: beBytes 2 0
  | .running n => 1 :: beBytes 2 (secondsLeft n)
  | .expired => 3 :: beBytes 2 0

/-- The data of a part of Read Domain by part and item, absent where either does not exist (R100, R177). -/
def domainBytes (r : DomainRec) (tokens part item : Nat) : Option (List Byte) :=
  match part, item with
  | 0, _ => some (domainStateBytes r tokens)
  | 1, 0 => some (timerBytes r.readyTimer)
  | 1, 1 => some (minAwakeBytes r.minAwakeTimer)
  | 1, 2 => some (idleBytes r.idleTimer)
  | 1, 3 => some (timerBytes r.windTimer)
  | 2, 0 => some (beBytes 2 r.forcedSleep)
  | 2, 1 => some (beBytes 2 r.faults)
  | 2, 2 => some (beBytes 2 r.ignored)
  | 3, code => if code ≤ 18 then some (paramBytes r.params code) else none
  | _, _ => none

/-- Read Domain (R100). -/
def answerReadDomain (args : List Byte) (s : State) : State × Answer :=
  match asDomain (argByte args 2).toNat with
  | none => (s, .bare .index)
  | some d =>
    readAnswer s
      (domainBytes (s.dom d) (s.tokens d).tokens (argByte args 3).toNat (argByte args 4).toNat)

/-- The Read Domain request at the Management Unit. -/
def manageReadDomain (tag : Byte) (args : List Byte) (s : State) : State :=
  s.manage 0x19 tag args 3 (answerReadDomain args)

/-- READ_DOMAIN (R100). -/
def execReadDomain (tag : Byte) (args : List Byte) (s : State) : Host.Outcome State Fault Refusal :=
  takeRequest 0x19 tag args manageReadDomain s

/-! ### Domain Wake, Domain Sleep, Domain Clear Fault (R94 to R96) -/

/-- The class of a Domain Wake: byte 3 when the frame carries it, and 0 otherwise (R94, R175). -/
def wakeClassArg (args : List Byte) : Nat := (argByte args 3).toNat

/-- Domain Wake: one wake request of cause MGMT is handed to admission, and a buffer that its trigger completes closes
after it (R94, R148). Where both the domain and the class are refused, R94 does not say which refusal answers
(assumption log 9). -/
def answerDomainWake (args : List Byte) (s : State) : State × Answer :=
  match asDomain (argByte args 2).toNat, asClass (wakeClassArg args) with
  | some d, some c =>
    let o := s.judge d c
    ((s.wakeRequest d c .mgmt).closeIfComplete,
     .okay [oneByte (wakeOutcomeCode o), optionByte (s.namedBuffer o)])
  | some _, none => (s, .bare .value)
  | none, some _ => (s, .bare .index)
  | none, none => (s, .bare (if Config.domainWakeIndexFirst then .index else .value))

/-- The Domain Wake request at the Management Unit. -/
def manageDomainWake (tag : Byte) (args : List Byte) (s : State) : State :=
  s.manage 0x1A tag args 1 (answerDomainWake args)

/-- DOMAIN_WAKE (R94). -/
def execDomainWake (tag : Byte) (args : List Byte) (s : State) : Host.Outcome State Fault Refusal :=
  takeRequest 0x1A tag args manageDomainWake s

/-- Domain Sleep (R95). -/
def answerDomainSleep (args : List Byte) (s : State) : State × Answer :=
  match asDomain (argByte args 2).toNat with
  | none => (s, .bare .index)
  | some d =>
    match (s.dom d).state with
    | .asleep => (s, .bare .ok)
    | .queued => (s.switchOff d .asleep DomainRec.stopReady, .bare .ok)
    | .powering => (s.switchOff d .asleep DomainRec.stopReady, .bare .ok)
    | .awake => (s.enterWinding d .mgmt, .bare .ok)
    | .winding => (s, .bare .ok)
    | .fault => (s, .bare .state)

/-- The Domain Sleep request at the Management Unit. -/
def manageDomainSleep (tag : Byte) (args : List Byte) (s : State) : State :=
  s.manage 0x1B tag args 1 (answerDomainSleep args)

/-- DOMAIN_SLEEP (R95). -/
def execDomainSleep (tag : Byte) (args : List Byte) (s : State) : Host.Outcome State Fault Refusal :=
  takeRequest 0x1B tag args manageDomainSleep s

/-- A domain in FAULT becomes ASLEEP with retries used 0 (R96). -/
def State.clearFault (s : State) (d : Domain) : State :=
  s.switchOff d .asleep (fun r => { r with retriesUsed := 0 })

/-- Domain Clear Fault (R96). -/
def answerDomainClearFault (args : List Byte) (s : State) : State × Answer :=
  match asDomain (argByte args 2).toNat with
  | none => (s, .bare .index)
  | some d =>
    if (s.dom d).state = .fault then (s.clearFault d, .bare .ok) else (s, .bare .state)

/-- The Domain Clear Fault request at the Management Unit. -/
def manageDomainClearFault (tag : Byte) (args : List Byte) (s : State) : State :=
  s.manage 0x1C tag args 1 (answerDomainClearFault args)

/-- DOMAIN_CLEAR_FAULT (R96). -/
def execDomainClearFault (tag : Byte) (args : List Byte) (s : State) : Host.Outcome State Fault Refusal :=
  takeRequest 0x1C tag args manageDomainClearFault s

/-! ### Set Slots (R108, R177) -/

/-- The data that report the Slot Arbiter (R108, R177). -/
def slotBytes (a : SlotArbiter) : List Byte :=
  oneByte a.count :: domainSetBytes (domainSetWhere (fun d => (a.holders.get d).isSome)) ++
    [oneByte a.queue.length, optionByte (a.queue.head?.map (fun e => e.domain.val))]

/-- Set Slots: bit 7 of the byte is the query flag, bits 0 to 6 the count (R108, R177). -/
def answerSetSlots (args : List Byte) (s : State) : State × Answer :=
  let n := bitField (argByte args 2) 0 7
  if (argByte args 2).getLsbD 7 then (s, .okay (slotBytes s.slots))
  else
    let s := s.updSlots (fun a => { a with count := clampTo 1 4 n })
    (s, { reply := if clampTo 1 4 n = n then .ok else .clamped, data := slotBytes s.slots })

/-- The Set Slots request at the Management Unit. -/
def manageSetSlots (tag : Byte) (args : List Byte) (s : State) : State :=
  s.manage 0x1D tag args 1 (answerSetSlots args)

/-- SET_SLOTS (R108). -/
def execSetSlots (tag : Byte) (args : List Byte) (s : State) : Host.Outcome State Fault Refusal :=
  takeRequest 0x1D tag args manageSetSlots s

/-! ### Domain and slot events -/

/-- SLOT_GRANT: the head of the wait queue is granted a slot when one can be granted (R105). -/
def execSlotGrant (s : State) : Host.Outcome State Fault Refusal := .next s.grantSlot

/-- The FAILED record of a ready failure, with the class the domain holds (R81). A POWERING domain always holds one
(R98); without a class there is no record to write. -/
def State.recordFailure (s : State) (d : Domain) : State :=
  match (s.dom d).wakeClass with
  | some c => s.writeCause d .ready c .failed none
  | none => s

/-- The ready failure of an ANNOUNCE domain: FAULT, with a FAILED record of the class it held (R81). -/
def State.readyFails (s : State) (d : Domain) : State :=
  (s.recordFailure d).switchOff d .fault DomainRec.stopReady

/-- The ready timer of a POWERING domain expires: a TIMED domain becomes AWAKE, and an ANNOUNCE domain retries or fails
(R79, R81). -/
def State.readyExpires (s : State) (d : Domain) : State :=
  match (s.dom d).effectiveReady with
  | .timed => s.becomeReady d
  | .announce =>
    if (s.dom d).retriesUsed < (s.dom d).params.readyRetries then
      s.updDom d (fun r =>
        { r with retriesUsed := r.retriesUsed + 1, readyTimer := some r.params.readyTimeout })
    else s.readyFails d

/-- READY_TIMER_EXPIRY: an expiry that finds the timer stopped has no effect (R79, R81). -/
def execReadyTimerExpiry (d : Domain) (s : State) : Host.Outcome State Fault Refusal :=
  if (s.dom d).state = .powering ∧ (s.dom d).readyTimer.isSome then .next (s.readyExpires d) else .next s

/-- HOLD_EXPIRY: the slot of a domain in the HOLD phase is released; an expiry that finds no hold has no effect (R106,
R107). -/
def execHoldExpiry (d : Domain) (s : State) : Host.Outcome State Fault Refusal :=
  match s.slots.holders.get d with
  | some (.hold _) => .next (s.releaseSlot d)
  | _ => .next s

/-- WIND_EXPIRY: a WINDING domain whose wind timer runs goes to ASLEEP and counts a forced sleep; an expiry that finds
the timer stopped has no effect (R92). -/
def execWindExpiry (d : Domain) (s : State) : Host.Outcome State Fault Refusal :=
  if (s.dom d).state = .winding ∧ (s.dom d).windTimer.isSome then
    .next ((s.updDom d (fun r => { r with forcedSleep := satInc Config.counterMax r.forcedSleep })).windingAsleep d)
  else .next s

end Sys2Proof.Machine
end

