-- ==== Sys2Proof/Machine/Charge.lean ====
section
/-!
DEFINITION. The requests on the Charge Account and the Cause Queue (R121, R137, R140, R177).
-/

namespace Sys2Proof.Machine

/-! ### Set Budget (R121, R177) -/

/-- The settings that a Set Budget writes, its thresholds brought into range (R121). -/
def Account.withSettings (a : Account) (budget t1 t2 ib : Nat) : Account :=
  let upper := clampTo 1 99 t1
  { a with
    budget := budget
    upper := upper
    lower := if upper ≤ t2 then upper - 1 else t2
    baseDraw := ib }

/-- Set Budget: in PARK the tier is recomputed and a downward change shed before the response (R121). -/
def answerSetBudget (args : List Byte) (s : State) : State × Answer :=
  let t1 := (argByte args 4).toNat
  let t2 := (argByte args 5).toNat
  let s := s.updAccount (fun a => a.withSettings (argWord args 2) t1 t2 (argWord args 6))
  let s := if s.mode = .park then s.retier else s
  (s,
   { reply := if s.account.upper = t1 ∧ s.account.lower = t2 then .ok else .clamped
     data := [oneByte s.account.upper, oneByte s.account.lower, tierCode s.account.tier] ++
       beBytes 2 s.account.budget })

/-- The Set Budget request at the Management Unit. -/
def manageSetBudget (tag : Byte) (args : List Byte) (s : State) : State :=
  s.manage 0x20 tag args 6 (answerSetBudget args)

/-- SET_BUDGET (R121). -/
def execSetBudget (tag : Byte) (args : List Byte) (s : State) : Host.Outcome State Fault Refusal :=
  takeRequest 0x20 tag args manageSetBudget s

/-! ### Read Account (R137, R177) -/

/-- The data of a part of Read Account, absent where the part, its page or its domain does not exist (R137, R174,
R177). -/
def accountBytes (s : State) (part domain page : Nat) : Option (List Byte) :=
  match part with
  | 0 =>
    some ([modeCode s.mode, tierCode s.account.tier] ++
      beBytes 2 (s.account.remaining / Config.chargePerMah))
  | 1 => some (beBytes 5 (s.account.spent / 1000))
  | 2 => some (beBytes 2 s.account.budget ++ [oneByte s.account.upper, oneByte s.account.lower])
  | 3 =>
    match page with
    | 0 => some (beBytes 2 s.account.baseDraw)
    | 1 => some (beBytes 4 s.draw)
    | _ => none
  | 4 =>
    (asDomain domain).map (fun d =>
      [oneByte (s.tokens d).tokens, oneByte (s.dom d).params.tokenCap] ++
        beBytes 3 (((s.tokens d).countdown.map secondsLeft).getD 0))
  | _ => none

/-- Read Account (R137). -/
def answerReadAccount (args : List Byte) (s : State) : State × Answer :=
  readAnswer s (accountBytes s (argByte args 2).toNat (argByte args 3).toNat (argByte args 4).toNat)

/-- The Read Account request at the Management Unit. -/
def manageReadAccount (tag : Byte) (args : List Byte) (s : State) : State :=
  s.manage 0x21 tag args 3 (answerReadAccount args)

/-- READ_ACCOUNT (R137). -/
def execReadAccount (tag : Byte) (args : List Byte) (s : State) : Host.Outcome State Fault Refusal :=
  takeRequest 0x21 tag args manageReadAccount s

/-! ### Take Causes (R140, R179) -/

/-- The free frame-entry places in B's forward queue (R140). -/
def State.freePlaces (s : State) : Nat := Config.forwardQueue - (s.port Port.B).frameEntries

/-- One cause frame is appended at the cause identifier (R140, R179). -/
def State.sendCause (s : State) (r : CauseRecord) : State :=
  s.updPort Port.B (fun u => u.offerManagement (.frame s.causeId (causeBytes r) false))

/-- The number of records that a Take Causes for `n` takes (R140). -/
def State.causesTaken (s : State) (n : Nat) : Nat := min n (min s.causes.records.length (s.freePlaces - 1))

/-- The `m` oldest records and the overflow count leave the Cause Queue (R140). -/
def State.dropCauses (s : State) (m : Nat) : State :=
  { s with causes := { records := s.causes.records.drop m, overflow := 0 } }

/-- A Take Causes for `n` records, in range (R140). -/
def State.takeCauses (s : State) (tag : Byte) (n : Nat) : State :=
  if s.freePlaces = 0 then s.respond 0x22 tag (.okay [])
  else
    let m := s.causesTaken n
    let s' := s.respond 0x22 tag
      (.okay [oneByte m, oneByte (s.causes.records.length - m), oneByte s.causes.overflow])
    (s.causes.records.take m).foldl State.sendCause (s'.dropCauses m)

/-- The Take Causes request at the Management Unit: the response is appended first, then the cause frames (R140). -/
def manageTakeCauses (tag : Byte) (args : List Byte) (s : State) : State :=
  let s := s.setPrepared false
  let n := (argByte args 2).toNat
  if args.length < 1 then s.respond 0x22 tag (.bare .length)
  else if n = 0 ∨ 32 < n then s.respond 0x22 tag (.bare .value)
  else s.takeCauses tag n

/-- TAKE_CAUSES (R140). -/
def execTakeCauses (tag : Byte) (args : List Byte) (s : State) : Host.Outcome State Fault Refusal :=
  takeRequest 0x22 tag args manageTakeCauses s

end Sys2Proof.Machine
end

