-- ==== Sys2Proof/Machine/Captures.lean ====
section
/-!
DEFINITION. The requests on the Capture Store (R155 to R158, R178) and the events of replay and freeing (R149, R154).
-/

namespace Sys2Proof.Machine

/-! ### Set Capture Mode (R156, R178) -/

/-- The store with a mode and a post count written: pointers 0 and every buffer FREE (R156). THE MODEL'S CHOICE (assumption log
30): the pointers become 0 also where the request repeats the mode in force. -/
def CaptureStore.withMode (c : CaptureStore) (mode : Fin 4) (post : Nat) : CaptureStore :=
  { c with
    mode := mode
    post := post
    writePtr := 0
    readPtr := 0
    buffers := List.replicate (bufferCount mode) Buffer.free }

/-- Set Capture Mode (R156). -/
def answerSetCaptureMode (args : List Byte) (s : State) : State × Answer :=
  match asClass (argByte args 2).toNat with
  | none => (s, .bare .value)
  | some mode =>
    if s.capture.buffers.any (fun b => b.state != .free) then (s, .bare .busy)
    else
      let n := (argByte args 3).toNat
      let post := min n (bufferSize mode - 1)
      ({ s with capture := s.capture.withMode mode post },
       { reply := if post = n then .ok else .clamped, data := [oneByte mode.val, oneByte post] })

/-- The Set Capture Mode request at the Management Unit. -/
def manageSetCaptureMode (tag : Byte) (args : List Byte) (s : State) : State :=
  s.manage 0x28 tag args 2 (answerSetCaptureMode args)

/-- SET_CAPTURE_MODE (R156). -/
def execSetCaptureMode (tag : Byte) (args : List Byte) (s : State) : Host.Outcome State Fault Refusal :=
  takeRequest 0x28 tag args manageSetCaptureMode s

/-! ### Read Capture Descriptor (R157, R178) -/

/-- The buffers that are not FREE (R157). -/
def CaptureStore.inUse (c : CaptureStore) : Nat := c.buffers.countP (fun b => b.state != .free)

/-- The ports on which a replay of buffer `j` is in flight (R157). -/
def State.replayPorts (s : State) (j : Nat) : PortSet := portSetWhere (fun p => (s.port p).replay == some j)

/-- The data of the STORE part by page (R157, R178). -/
def storeBytes (c : CaptureStore) (page : Nat) : Option (List Byte) :=
  match page with
  | 0 => some [oneByte c.mode.val, oneByte c.post, oneByte c.writePtr, oneByte c.readPtr, oneByte c.inUse]
  | 1 => some (beBytes 2 c.loss)
  | _ => none

/-- The data of a part of a descriptor by part and page, for buffer `b` of index `j` (R157, R178). -/
def descriptorBytes (s : State) (j : Nat) (b : Buffer) (part page : Nat) : Option (List Byte) :=
  match part, page with
  | 1, 0 =>
    some [bufferStateCode b.state, oneByte b.slots.length, optionByte b.stop, oneByte (boolBit b.wrapped),
      oneByte b.postLeft]
  | 1, 1 => some (beBytes 2 b.epoch.toNat)
  | 2, 0 => some ([portSetByte b.pending] ++ domainSetBytes b.woken ++ [portSetByte (s.replayPorts j)])
  | 3, 0 => some ([triggerCode b.trigger, triggerIndexByte b.trigger] ++ beBytes 2 b.skipped)
  | 3, 1 => some (beBytes 4 b.closeSecond.toNat)
  | _, _ => none

/-- Read Capture Descriptor (R157). -/
def answerReadCaptureDescriptor (args : List Byte) (s : State) : State × Answer :=
  let part := (argByte args 2).toNat
  let j := (argByte args 3).toNat
  let page := (argByte args 4).toNat
  if part = 0 then readAnswer s (storeBytes s.capture page)
  else if j < bufferCount s.capture.mode then readAnswer s (descriptorBytes s j (s.buffer j) part page)
  else (s, .bare .index)

/-- The Read Capture Descriptor request at the Management Unit. -/
def manageReadCaptureDescriptor (tag : Byte) (args : List Byte) (s : State) : State :=
  s.manage 0x29 tag args 3 (answerReadCaptureDescriptor args)

/-- READ_CAPTURE_DESCRIPTOR (R157). -/
def execReadCaptureDescriptor (tag : Byte) (args : List Byte) (s : State) : Host.Outcome State Fault Refusal :=
  takeRequest 0x29 tag args manageReadCaptureDescriptor s

/-! ### Read Capture Frame (R158, R178) -/

/-- The stored frame at a position of a buffer, positions counting from the oldest frame (R146, R158). -/
def Buffer.frameAt (b : Buffer) (position : Nat) : Option StoredFrame :=
  match b.order[position]? with
  | some slot => b.frame slot
  | none => none

/-- Bytes `low` to `low + n - 1` of the data, 0 beyond its length (R178). -/
def dataBytes (data : List Byte) (low n : Nat) : List Byte := (List.range n).map (fun i => data.getD (low + i) 0)

/-- The data of a page of a stored frame (R158, R178). -/
def storedBytes (f : StoredFrame) (page : Nat) : Option (List Byte) :=
  match page with
  | 0 =>
    some ([oneByte (sourceCode f.record.source + 16 * boolBit f.record.overrunMark)] ++
      beBytes 2 (f.record.data.length * 4096 + f.record.ident.toNat) ++
      [portSetByte f.forward, portSetByte f.delivered])
  | 1 => some (dataBytes f.record.data 0 5)
  | 2 => some (dataBytes f.record.data 5 3)
  | 3 => some (beBytes 4 f.record.arrival.toNat)
  | _ => none

/-- Read Capture Frame (R158). -/
def answerReadCaptureFrame (args : List Byte) (s : State) : State × Answer :=
  let j := (argByte args 2).toNat
  if j < bufferCount s.capture.mode then
    match (s.buffer j).frameAt (argByte args 3).toNat with
    | some f => readAnswer s (storedBytes f (argByte args 4).toNat)
    | none => (s, .bare .index)
  else (s, .bare .index)

/-- The Read Capture Frame request at the Management Unit. -/
def manageReadCaptureFrame (tag : Byte) (args : List Byte) (s : State) : State :=
  s.manage 0x2B tag args 3 (answerReadCaptureFrame args)

/-- READ_CAPTURE_FRAME (R158). -/
def execReadCaptureFrame (tag : Byte) (args : List Byte) (s : State) : Host.Outcome State Fault Refusal :=
  takeRequest 0x2B tag args manageReadCaptureFrame s

/-! ### Release Capture (R155, R178) -/

/-- Whether the attempt in progress on a port sends the frame in a slot of buffer `j`. -/
def PortUnit.sendingSlot (u : PortUnit) (j slot : Nat) : Bool :=
  match u.attempt with
  | some a => a.sending == .replay j slot
  | none => false

/-- The frames of buffer `j` that a release counts as skipped on one port: those due, less the frame whose replay attempt
is in progress there (R155). -/
def State.releasedOn (s : State) (j : Nat) (p : Port) : Nat :=
  if hasPort (s.buffer j).pending p then
    (((s.buffer j).dueSlots p).filter (fun k => !(s.port p).sendingSlot j k)).length
  else 0

/-- The frames that a release of buffer `j` adds to the skipped count, over its pending ports (R155). -/
def State.releasedFrames (s : State) (j : Nat) : Nat :=
  ((List.finRange 7).map (s.releasedOn j)).sum

/-- The CLOSED buffer `j` is released: it becomes DONE with no port pending, and its replays in flight end (R155). -/
def State.release (s : State) (j : Nat) : State :=
  let n := s.releasedFrames j
  let s := s.updBuffer j (fun b =>
    { b with state := .done, pending := 0, skipped := satAdd Config.counterMax b.skipped n })
  { s with
    ports := s.ports.map (fun u =>
      if u.replay = some j then { u with replay := none, abortDue := false } else u) }

/-- Release Capture (R155). THE MODEL'S CHOICE (assumption log 29): where the skipped count stops at 65535, the response reports all
the frames counted, not the increase that fitted. -/
def answerReleaseCapture (s : State) : State × Answer :=
  let j := s.capture.readPtr
  match (s.buffer j).state with
  | .closed => (s.release j, .okay (oneByte j :: beBytes 2 (s.releasedFrames j)))
  | _ => (s, .bare .state)

/-- The Release Capture request at the Management Unit. -/
def manageReleaseCapture (tag : Byte) (args : List Byte) (s : State) : State :=
  s.manage 0x2A tag args 0 answerReleaseCapture

/-- RELEASE_CAPTURE (R155). -/
def execReleaseCapture (tag : Byte) (args : List Byte) (s : State) : Host.Outcome State Fault Refusal :=
  takeRequest 0x2A tag args manageReleaseCapture s

/-! ### Replay start and freeing (R149, R154) -/

/-- The buffer whose replay begins on a port: the oldest CLOSED buffer pending there, when no replay is in flight, the
port is ACTIVE and not BLOCKED, and a woken domain of that buffer on the port is AWAKE or WINDING (R149). THE MODEL'S CHOICE
(assumption log 26): an attempt in progress on the port does not hold the replay back, also one that still sends a frame of
a released buffer. -/
def State.replayReady (s : State) (p : Port) : Option Nat :=
  if (s.port p).replay.isSome || !(s.port p).active || (s.port p).blocked then none
  else
    match s.oldestPending p with
    | some j => if s.anyOn (s.buffer j).woken p DomainState.activates then some j else none
    | none => none

/-- REPLAY_START: the replay that is ready on a port begins; where none is ready, nothing does (R149). -/
def execReplayStart (p : Port) (s : State) : Host.Outcome State Fault Refusal :=
  match s.replayReady p with
  | some j => .next (s.updPort p (fun u => { u with replay := some j }))
  | none => .next s

/-- Whether the buffer at the read pointer can be freed: it is DONE, and no replay attempt in progress sends one of its
frames (R154). -/
def State.freeable (s : State) : Bool :=
  (s.buffer s.capture.readPtr).state == .done && !s.sendingFrom s.capture.readPtr

/-- The buffer at the read pointer is freed, the read pointer advances, and in PARK a buffer freed at the write pointer
opens (R144, R154). -/
def State.freeBuffer (s : State) : State :=
  let j := s.capture.readPtr
  let freed := s.updBuffer j (fun _ => Buffer.free)
  State.openBuffer { freed with capture := { freed.capture with readPtr := s.nextBuffer j } }

/-- BUFFER_FREE: the buffer at the read pointer is freed, when it can be (R154). -/
def execBufferFree (s : State) : Host.Outcome State Fault Refusal :=
  if s.freeable then .next s.freeBuffer else .next s

end Sys2Proof.Machine
end

