-- ==== Sys2Proof/Machine/Lines.lean ====
section
/-!
DEFINITION. The Line Unit: its requests (R62, R63, R178) and its sample (R57 to R61). The Timer Unit: its requests (R66 to
R68, R178) and what the expiry of a park timer does (R69 to R71).
-/

namespace Sys2Proof.Machine

/-! ### Access -/

/-- The state with one line record changed. -/
def State.updLine (s : State) (l : LineIx) (f : LineRec → LineRec) : State :=
  { s with lineUnit := { s.lineUnit with lines := s.lineUnit.lines.modify l f } }

/-- The state with one timer record changed. -/
def State.updTimer (s : State) (t : TimerIx) (f : TimerRec → TimerRec) : State :=
  { s with timerUnit := { s.timerUnit with timers := s.timerUnit.timers.modify t f } }

/-- The record of a timer. -/
def State.timer (s : State) (t : TimerIx) : TimerRec := s.timerUnit.timers.get t

/-! ### Configure Line (R62, R178) -/

/-- The Line Unit with a sample period argument taken: 1 to 255 becomes the period and the next sample is due one new
period later, and 0 leaves the running interval as it is (R57, R62). THE MODEL'S CHOICE (assumption log 25): an argument
equal to the present period also restarts the interval. -/
def LineUnit.withPeriod (u : LineUnit) (n : Nat) : LineUnit :=
  if n = 0 then u else { u with period := n, sampleLeft := n }

/-- Configure Line (R62). -/
def answerConfigureLine (args : List Byte) (s : State) : State × Answer :=
  match asLine (argByte args 2).toNat with
  | none => (s, .bare .index)
  | some l =>
    match asRole (argByte args 3).toNat, asEdge (argByte args 4).toNat with
    | some role, some edge =>
      let s := s.updLine l (fun r => { r with role := role, edge := edge })
      ({ s with lineUnit := s.lineUnit.withPeriod (argByte args 5).toNat }, .bare .ok)
    | _, _ => (s, .bare .value)

/-- The Configure Line request at the Management Unit. -/
def manageConfigureLine (tag : Byte) (args : List Byte) (s : State) : State :=
  s.manage 0x30 tag args 4 (answerConfigureLine args)

/-- CONFIGURE_LINE (R62). -/
def execConfigureLine (tag : Byte) (args : List Byte) (s : State) : Host.Outcome State Fault Refusal :=
  takeRequest 0x30 tag args manageConfigureLine s

/-! ### Read Lines (R63, R178) -/

/-- The LEVELS part: the levels, the UNKNOWN lines, and the sample period; an UNKNOWN level is sent as 0 (R178). -/
def levelBytes (u : LineUnit) : List Byte :=
  beBytes 2 (lineBits (fun l => (u.lines.get l).level == some true)) ++
    beBytes 2 (lineBits (fun l => (u.lines.get l).level == none)) ++ [oneByte u.period]

/-- The FLAGS part (R178). -/
def lineFlagBytes (u : LineUnit) : List Byte :=
  beBytes 2 (lineBits (fun l => (u.lines.get l).change)) ++
    beBytes 2 (lineBits (fun l => (u.lines.get l).overrun))

/-- The nibble of a line in a CONFIG part: the role in bits 0 and 1, the edge in bits 2 and 3 (R178). -/
def lineNibble (r : LineRec) : Nat := roleCode r.role + 4 * edgeCode r.edge

/-- The nibble of the line of a number. -/
def nibbleAt (u : LineUnit) (n : Nat) : Nat :=
  match asLine n with
  | some l => lineNibble (u.lines.get l)
  | none => 0

/-- A CONFIG part: four bytes, one nibble for each of the eight lines from `low` on, in ascending order from the low
nibble of the first byte (R178). -/
def configBytes (u : LineUnit) (low : Nat) : List Byte :=
  (List.range 4).map (fun i => oneByte (nibbleAt u (low + 2 * i) + 16 * nibbleAt u (low + 2 * i + 1)))

/-- A line record with its two flags cleared (R63). -/
def LineRec.clearFlags (r : LineRec) : LineRec := { r with change := false, overrun := false }

/-- The flags of every line cleared (R63). -/
def State.clearLineFlags (s : State) : State :=
  { s with lineUnit := { s.lineUnit with lines := s.lineUnit.lines.map LineRec.clearFlags } }

/-- Read Lines: the FLAGS part clears the flags that it reports (R63). -/
def answerReadLines (args : List Byte) (s : State) : State × Answer :=
  match (argByte args 2).toNat with
  | 0 => (s, .okay (levelBytes s.lineUnit))
  | 1 => (s.clearLineFlags, .okay (lineFlagBytes s.lineUnit))
  | 2 => (s, .okay (configBytes s.lineUnit 0))
  | 3 => (s, .okay (configBytes s.lineUnit 8))
  | _ => (s, .bare .index)

/-- The Read Lines request at the Management Unit. -/
def manageReadLines (tag : Byte) (args : List Byte) (s : State) : State :=
  s.manage 0x31 tag args 1 (answerReadLines args)

/-- READ_LINES (R63). -/
def execReadLines (tag : Byte) (args : List Byte) (s : State) : Host.Outcome State Fault Refusal :=
  takeRequest 0x31 tag args manageReadLines s

/-! ### The sample (R57 to R61) -/

/-- Whether a new sample of a line is an accepted change: it agrees with the previous sample and differs from the
accepted level (R58). -/
def LineRec.changes (r : LineRec) (v : Bool) : Bool := r.previous == some v && r.level == some (!v)

/-- The accepted level after a new sample: the sample's level when it agrees with the previous sample, and unchanged
otherwise (R58). -/
def LineRec.accepted (r : LineRec) (v : Bool) : Option Bool := if r.previous = some v then some v else r.level

/-- A line record after a new sample; an accepted change sets the change flag (R58, R59). -/
def LineRec.sampled (r : LineRec) (v : Bool) : LineRec :=
  { r with level := r.accepted v, previous := some v, change := r.change || r.changes v }

/-- Whether an edge selection includes a change to level `v` (R56). -/
def EdgeSelect.includes (e : EdgeSelect) (v : Bool) : Bool :=
  match e, v with
  | .both, _ => true
  | .rising, true => true
  | .falling, false => true
  | _, _ => false

/-- The record of a line event (R2, R60). -/
def State.lineRecord (s : State) (l : LineIx) (v : Bool) : FrameRecord where
  source := .line
  ident := BitVec.ofNat 11 l.val
  data := [oneByte (boolBit v)]
  arrival := s.clock
  overrunMark := false
  injected := false

/-- A line event is appended to the line event queue, or is lost and sets the line's overrun flag (R60). -/
def State.lineEvent (s : State) (l : LineIx) (v : Bool) : State :=
  if s.lineUnit.queue.length < Config.lineQueue then
    { s with lineUnit := { s.lineUnit with queue := s.lineUnit.queue ++ [s.lineRecord l v] } }
  else s.updLine l (fun r => { r with overrun := true })

/-- What an accepted change of a line to level `v` brings about, by the line's role (R59, R61). -/
def State.acceptChange (s : State) (l : LineIx) (v : Bool) : State :=
  match (s.lineUnit.lines.get l).role with
  | .unused => s
  | .wake => if (s.lineUnit.lines.get l).edge.includes v then s.lineEvent l v else s
  | .ignition => if v ∧ s.mode = .park then s.parkExit else s

/-- One line is sampled, debounced and acted on (R58, R59). -/
def State.sampleLine (s : State) (l : LineIx) (v : Bool) : State :=
  if (s.lineUnit.lines.get l).changes v then (s.updLine l (fun r => r.sampled v)).acceptChange l v
  else s.updLine l (fun r => r.sampled v)

/-- A sample: all sixteen lines in the order line 0 to line 15; the next sample is due one period later (R57). -/
def State.sample (s : State) (levels : BitVec 16) : State :=
  let s := (List.finRange 16).foldl (fun s l => s.sampleLine l (levels.getLsbD l.val)) s
  { s with lineUnit := { s.lineUnit with sampleLeft := s.lineUnit.period } }

/-- LINE_SAMPLE: bit n of `levels` is the level of line n at the sample (R57). -/
def execLineSample (levels : BitVec 16) (s : State) : Host.Outcome State Fault Refusal := .next (s.sample levels)

/-! ### The timer requests (R64, R66 to R68, R178) -/

/-- Whether the expiry of a timer is due: it runs, and a park second has brought its remaining count to 0 (R65). -/
def TimerRec.due (t : TimerRec) : Bool := t.running && t.remaining == 0

/-- The remaining count of a timer as it is reported and held at a stop (R64, R68, R72). -/
def TimerRec.held (t : TimerRec) : Nat := if t.running then secondsLeft t.remaining else t.remaining

/-- The data that report a timer record (R64, R178). -/
def timerRecordBytes (t : TimerRec) : List Byte :=
  oneByte (timerModeCode t.mode + 2 * boolBit t.running + 4 * boolBit t.thinning) ::
    beBytes 2 t.held ++ [t.expiries, oneByte t.lost]

/-- The answer of a timer request: the timer's record as it stands after the request (R64). -/
def State.timerAnswer (s : State) (t : TimerIx) (r : Reply) : State × Answer :=
  (s, { reply := r, data := timerRecordBytes (s.timer t) })

/-- A timer record as Configure Timer writes it; a preload of 0 is written as 1 (R66). -/
def TimerRec.configured (t : TimerRec) (mode : TimerMode) (preload : Nat) (thinning : Bool) : TimerRec :=
  { t with mode := mode, preload := max 1 preload, thinning := thinning, expiries := 0 }

/-- Configure Timer (R66): byte 3 holds the query flag in bit 7, the thinning flag in bit 6 and the mode in bits 0 and
1 (R178). -/
def answerConfigureTimer (args : List Byte) (s : State) : State × Answer :=
  match asTimer (argByte args 2).toNat with
  | none => (s, .bare .index)
  | some t =>
    if (argByte args 3).getLsbD 7 then s.timerAnswer t .ok
    else
      match asTimerMode (bitField (argByte args 3) 0 2) with
      | none => (s, .bare .value)
      | some mode =>
        (s.updTimer t (fun r => r.configured mode (argWord args 4) ((argByte args 3).getLsbD 6))).timerAnswer t
          (if argWord args 4 = 0 then .clamped else .ok)

/-- The Configure Timer request at the Management Unit. -/
def manageConfigureTimer (tag : Byte) (args : List Byte) (s : State) : State :=
  s.manage 0x32 tag args 4 (answerConfigureTimer args)

/-- CONFIGURE_TIMER (R66). -/
def execConfigureTimer (tag : Byte) (args : List Byte) (s : State) : Host.Outcome State Fault Refusal :=
  takeRequest 0x32 tag args manageConfigureTimer s

/-- Start Timer (R67). -/
def answerStartTimer (args : List Byte) (s : State) : State × Answer :=
  match asTimer (argByte args 2).toNat with
  | none => (s, .bare .index)
  | some t => (s.updTimer t (fun r => { r with remaining := r.preload, running := true })).timerAnswer t .ok

/-- The Start Timer request at the Management Unit. -/
def manageStartTimer (tag : Byte) (args : List Byte) (s : State) : State :=
  s.manage 0x33 tag args 1 (answerStartTimer args)

/-- START_TIMER (R67). -/
def execStartTimer (tag : Byte) (args : List Byte) (s : State) : Host.Outcome State Fault Refusal :=
  takeRequest 0x33 tag args manageStartTimer s

/-- Stop Timer: a timer whose expiry is due and not yet taken stops with the count 1 held (R68, R72). -/
def answerStopTimer (args : List Byte) (s : State) : State × Answer :=
  match asTimer (argByte args 2).toNat with
  | none => (s, .bare .index)
  | some t => (s.updTimer t (fun r => { r with running := false, remaining := r.held })).timerAnswer t .ok

/-- The Stop Timer request at the Management Unit. -/
def manageStopTimer (tag : Byte) (args : List Byte) (s : State) : State :=
  s.manage 0x34 tag args 1 (answerStopTimer args)

/-- STOP_TIMER (R68). -/
def execStopTimer (tag : Byte) (args : List Byte) (s : State) : Host.Outcome State Fault Refusal :=
  takeRequest 0x34 tag args manageStopTimer s

/-! ### The expiry of a timer (R69 to R71) -/

/-- Whether an expiry count is a multiple of the thinning step of a tier; EXHAUSTED has no step (R70). -/
def Tier.emits (t : Tier) (count : BitVec 8) : Bool :=
  match t with
  | .normal => true
  | .reduced => count.toNat % 2 == 0
  | .critical => count.toNat % 4 == 0
  | .exhausted => false

/-- Whether an expiry of a timer that brings its count to `count` is thinned (R70). -/
def TimerRec.thinned (t : TimerRec) (mode : Mode) (tier : Tier) (count : BitVec 8) : Bool :=
  t.mode == .periodic && t.thinning && mode == .park && !tier.emits count

/-- A timer record after its expiry: the count wraps from 255 to 0, a ONE_SHOT timer stops at 0, and a PERIODIC timer
reloads (R69). -/
def TimerRec.expired (t : TimerRec) : TimerRec :=
  match t.mode with
  | .oneShot => { t with expiries := t.expiries + 1, running := false, remaining := 0 }
  | .periodic => { t with expiries := t.expiries + 1, remaining := t.preload }

/-- The record of a timer event (R2, R71). -/
def State.timerRecord (s : State) (t : TimerIx) (count : BitVec 8) : FrameRecord where
  source := .timer
  ident := BitVec.ofNat 11 t.val
  data := [count]
  arrival := s.clock
  overrunMark := false
  injected := false

/-- A timer event is appended to the timer event queue, or is lost and counted in the timer's lost counter (R71). -/
def State.timerEvent (s : State) (t : TimerIx) (count : BitVec 8) : State :=
  if s.timerUnit.queue.length < Config.timerQueue then
    { s with timerUnit := { s.timerUnit with queue := s.timerUnit.queue ++ [s.timerRecord t count] } }
  else s.updTimer t (fun r => { r with lost := satInc Config.byteMax r.lost })

/-- An expiry of a timer, in the order of R69: count, mode, emission. -/
def State.timerExpires (s : State) (t : TimerIx) : State :=
  let count := (s.timer t).expiries + 1
  let expired := s.updTimer t TimerRec.expired
  if (s.timer t).thinned s.mode s.account.tier count then expired else expired.timerEvent t count

end Sys2Proof.Machine
end

