-- ==== Sys2Proof/Machine/Ports.lean ====
section
/-!
DEFINITION. Read Port Status (R19, R178), and the transmitter of a port: the start and the end of a transmission attempt
(R8, R12 to R15, R150 to R152, R155), the frame an attempt puts on the bus (R10, R179), and recovery (R16).
-/

namespace Sys2Proof.Machine

/-! ### Read Port Status (R19, R178) -/

/-- The code of the port state: 0 LISTEN, 1 ACTIVE, 2 ACTIVE and BLOCKED (R178). -/
def PortUnit.stateCode (u : PortUnit) : Nat :=
  if u.active then if u.blocked then 2 else 1 else 0

/-- The failure count and the four flags in one byte (R178). -/
def PortUnit.flagByte (u : PortUnit) : Byte :=
  oneByte (u.failures + 16 * boolBit u.overrunSeen + 32 * boolBit u.failureSeen + 64 * boolBit u.blockedSeen +
    128 * boolBit u.unsupportedSeen)

/-- The data of a page of Read Port Status, absent where there is no such page. Every response carries the five data
bytes that R175 gives, those past the page's fields 0 (R174, R175, R178). -/
def portPage (u : PortUnit) (page : Nat) : Option (List Byte) :=
  match page with
  | 0 =>
    some [oneByte u.stateCode, u.flagByte, oneByte u.rx.length, oneByte u.frameEntries,
      oneByte (u.noticeEntries + 16 * boolBit u.replay.isSome)]
  | 1 => some (beBytes 2 u.received ++ beBytes 2 u.unmatched ++ [0])
  | 2 => some (beBytes 2 u.unsupported ++ beBytes 2 u.overrun ++ [0])
  | 3 => some (beBytes 2 u.forwardDrop ++ beBytes 2 u.forwardSkipped ++ [0])
  | 4 => some (beBytes 2 u.transmitFailure ++ [0, 0, 0])
  | _ => none

/-- Read Port Status: page 0 reports the accumulated flags and clears them (R18, R19, R174). -/
def answerReadPortStatus (args : List Byte) (s : State) : State × Answer :=
  match asPort (argByte args 2).toNat with
  | none => (s, .bare .index)
  | some p =>
    match portPage (s.port p) (argByte args 3).toNat with
    | none => (s, .bare .index)
    | some data =>
      (if (argByte args 3).toNat = 0 then s.updPort p PortUnit.clearFlags else s, .okay data)

/-- The Read Port Status request at the Management Unit. -/
def manageReadPortStatus (tag : Byte) (args : List Byte) (s : State) : State :=
  s.manage 0x39 tag args 2 (answerReadPortStatus args)

/-- READ_PORT_STATUS (R19). -/
def execReadPortStatus (tag : Byte) (args : List Byte) (s : State) : Host.Outcome State Fault Refusal :=
  takeRequest 0x39 tag args manageReadPortStatus s

/-! ### What a port does on its bus (R6, R10, R179) -/

/-- Whether a port acknowledges the frames it takes and signals errors: while it is ACTIVE, BLOCKED or not (R6). -/
def PortUnit.acknowledges (u : PortUnit) : Bool := u.active

/-- The identifier and the data of the frame that a forward entry is sent as (R10, R179). -/
def FwdEntry.onBus (e : FwdEntry) : Ident × List Byte :=
  match e with
  | .frame i data _ => (i, data)
  | .notice _ i k => (i, noticeBytes k)

/-- The frame that the attempt in progress on a port sends: the oldest entry of the forward queue, or the frame in a slot
of the Capture Store (R10, R13, R150). -/
def State.onBus (s : State) (p : Port) : Option (Ident × List Byte) :=
  match (s.port p).attempt with
  | none => none
  | some a =>
    match a.sending with
    | .queueHead => (s.port p).fwd.head?.map FwdEntry.onBus
    | .replay j slot => ((s.buffer j).frame slot).map (fun f => (f.record.ident, f.record.data))

/-! ### The start of an attempt (R13, R150) -/

/-- A port has served a buffer: it leaves the buffer's pending set, and the buffer becomes DONE when no port is left
(R150, R154). -/
def Buffer.served (b : Buffer) (p : Port) : Buffer := Buffer.settle { b with pending := withoutPort b.pending p }

/-- The replay of buffer `j` on a port ends (R150). -/
def State.endReplay (s : State) (p : Port) (j : Nat) : State :=
  (s.updBuffer j (fun b => b.served p)).updPort p (fun u => { u with replay := none })

/-- Whether a port may start an attempt: it is ACTIVE, is not BLOCKED, and has no attempt in progress (R13). -/
def PortUnit.mayStart (u : PortUnit) : Bool := u.active && !u.blocked && u.attempt.isNone

/-- A port starts an attempt (R13). -/
def PortUnit.start (u : PortUnit) (x : Sending) : PortUnit :=
  { u with attempt := some { sending := x, detached := false, removal := false } }

/-- The oldest entry of the forward queue is sent, when there is one (R13). -/
def State.startQueue (s : State) (p : Port) : State :=
  if (s.port p).fwd.isEmpty then s else s.updPort p (fun u => u.start .queueHead)

/-- TRANSMISSION_START: the port selects by R13, a replay in flight before its forward queue. A replay that has nothing
due on the port ends (R150). -/
def execTransmissionStart (p : Port) (s : State) : Host.Outcome State Fault Refusal :=
  if (s.port p).mayStart then
    match (s.port p).replay with
    | none => .next (s.startQueue p)
    | some j =>
      match (s.buffer j).dueSlots p with
      | slot :: _ => .next (s.updPort p (fun u => u.start (.replay j slot)))
      | [] => .next ((s.endReplay p j).startQueue p)
  else .next s

/-! ### The end of an attempt (R8, R12, R14, R15) -/

/-- A port becomes BLOCKED, and its recovery timer starts (R15). -/
def PortUnit.block (u : PortUnit) : PortUnit :=
  { u with blocked := true, blockedSeen := true, recovery := some Config.recoveryTime }

/-- A failed attempt that was not detached is counted, also among the consecutive failures, and the eighth makes the port
BLOCKED (R14, R15). -/
def PortUnit.fail (u : PortUnit) : PortUnit :=
  let failed := { u.countFailure with failures := satInc Config.failureLimit u.failures }
  if Config.failureLimit ≤ failed.failures then failed.block else failed

/-- The accounting of a failed attempt: a detached attempt counts the failure alone, and any other may make the port
BLOCKED, which starts the wind timers of its WINDING domains (R8, R14, R15, R89). -/
def State.accountFailure (s : State) (p : Port) (detached : Bool) : State :=
  if detached then s.updPort p PortUnit.countFailure
  else
    let s := s.updPort p PortUnit.fail
    if (s.port p).blocked then s.windOnBlocked p else s

/-- The accounting of an attempt's end; lost arbitration changes no counter (R8, R14). -/
def State.accountEnd (s : State) (p : Port) (detached : Bool) (o : TxOutcome) : State :=
  match o with
  | .success => if detached then s else s.updPort p (fun u => { u with failures := 0 })
  | .lostArbitration => s
  | .failure => s.accountFailure p detached

/-- The notice of a domain was transmitted with no withdrawal under way (R89, R90). -/
def State.noticeSent (s : State) (d : Domain) (k : NoticeKind) : State :=
  match k with
  | .sleep _ =>
    s.updDom d (fun r =>
      { (if r.state = .winding then r.startWind else r) with notice := .sleepSent })
  | .cancel => s.updDom d (fun r => { r with notice := .none })

/-- The oldest entry leaves a forward queue. -/
def State.dropHead (s : State) (p : Port) : State := s.updPort p (fun u => { u with fwd := u.fwd.drop 1 })

/-- An entry of the forward queue was transmitted and has left the queue. A notice is reported to its domain, and the
Reset response brings about the management reset while a reset is pending (R12, R14, R91, R172). -/
def State.entrySent (s : State) (e : FwdEntry) (removal : Bool) : State :=
  match e with
  | .frame _ _ isReset => if isReset && s.management.resetPending then s.managementReset else s
  | .notice d _ k => if removal then s.settleNotice d k true else s.noticeSent d k

/-- The end of an attempt that sent the oldest entry of the forward queue. A notice whose removal was asked for leaves the
queue also at a failure or lost arbitration, reported unsent (R12, R14). -/
def State.endQueueAttempt (s : State) (p : Port) (removal : Bool) (o : TxOutcome) : State :=
  match (s.port p).fwd, o with
  | [], _ => s
  | e :: _, .success => (s.dropHead p).entrySent e removal
  | .notice d _ k :: _, _ => if removal then (s.dropHead p).settleNotice d k false else s
  | .frame _ _ _ :: _, _ => s

/-- A port joins the delivered set of the frame in a slot (R14, R150). -/
def Buffer.deliver (b : Buffer) (p : Port) (slot : Nat) : Buffer :=
  { b with slots := b.slots.modify slot (fun f => { f with delivered := f.delivered ||| onlyPort p }) }

/-- The end of an attempt that sent the frame in a slot of buffer `j`. A success is delivered, and ends the replay when
nothing is left due. A failure or lost arbitration changes nothing, but for a buffer released during the attempt, which
counts the frame as skipped (R150, R155). -/
def State.endReplayAttempt (s : State) (p : Port) (j slot : Nat) (o : TxOutcome) : State :=
  match o with
  | .success =>
    let s := s.updBuffer j (fun b => b.deliver p slot)
    if (s.port p).replay = some j ∧ (s.buffer j).dueSlots p = [] then s.endReplay p j else s
  | _ =>
    if (s.port p).replay = some j then s
    else s.updBuffer j (fun b => { b with skipped := satInc Config.counterMax b.skipped })

/-- An abort that waits for the end of the attempt is applied (R8, R152). -/
def State.applyAbort (s : State) (p : Port) : State := if (s.port p).abortDue then s.abortReplay p else s

/-- The end of the attempt `a` on a port: the attempt is over, it is accounted for, and the Domain Controller or the
Capture Store is told. -/
def State.endAttempt (s : State) (p : Port) (a : Attempt) (o : TxOutcome) : State :=
  let s := (s.updPort p (fun u => { u with attempt := none })).accountEnd p a.detached o
  match a.sending with
  | .queueHead => s.endQueueAttempt p a.removal o
  | .replay j slot => (s.endReplayAttempt p j slot o).applyAbort p

/-- TRANSMISSION_END: the attempt in progress on a port ends; without one there is nothing to end (R14). -/
def execTransmissionEnd (p : Port) (o : TxOutcome) (s : State) : Host.Outcome State Fault Refusal :=
  match (s.port p).attempt with
  | some a => .next (s.endAttempt p a o)
  | none => .next s

/-! ### Recovery (R16) -/

/-- RECOVERY_TIMER_EXPIRY: a BLOCKED port whose recovery timer runs leaves BLOCKED; an expiry that finds the timer
stopped has no effect (R16). -/
def execRecoveryTimerExpiry (p : Port) (s : State) : Host.Outcome State Fault Refusal :=
  if (s.port p).blocked ∧ (s.port p).recovery.isSome then .next (s.updPort p PortUnit.leaveBlocked) else .next s

end Sys2Proof.Machine
end

