-- ==== Sys2Proof/Machine/Seconds.lean ====
section
/-!
DEFINITION. The park second (R166), what it counts (R65, R84, R122, R134), and the expiries that fall in it: of the park timers
(R65, R69, R72), of the refill countdowns (R134), and of the idle and min-awake timers (R84, R87).

A park second brings a count to 0, and the expiry that this calls for is then due. It is taken by its own command, or, at the
latest, before time goes on: before the next millisecond passes or the next park second falls (assumption log 6).
-/

namespace Sys2Proof.Machine

/-! ### The expiries that are due -/

/-- The expiry of one park timer is taken, when it is due (R69). -/
def State.timerDue (s : State) (t : TimerIx) : State := if (s.timer t).due then s.timerExpires t else s

/-- The expiry of a park timer is taken, when it is due, and before it those of the lower-numbered timers that are due at the
same park second (R65). -/
def State.timersDueTo (s : State) (t : TimerIx) : State :=
  if (s.timer t).due then ((List.finRange 8).filter (fun i => decide (i ≤ t))).foldl State.timerDue s else s

/-- TIMER_EXPIRY: an expiry that finds the timer stopped, or finds no park second that brought its count to 0, has no effect
(R65, R69, R72). -/
def execTimerExpiry (t : TimerIx) (s : State) : Host.Outcome State Fault Refusal := .next (s.timersDueTo t)

/-- A refill countdown expires: one token is added, and the countdown restarts below the cap and stops otherwise
(R134). -/
def TokenRec.refilled (t : TokenRec) (cap refill : Nat) : TokenRec where
  tokens := t.tokens + 1
  countdown := if t.tokens + 1 < cap then some (60 * refill) else none

/-- The expiry of one refill countdown is taken in PARK, when it is due (R133, R134). -/
def State.refillDue (s : State) (d : Domain) : State :=
  if s.mode = .park ∧ (s.tokens d).countdown = some 0 then
    s.updTokens d (fun t => t.refilled (s.dom d).params.tokenCap (s.dom d).params.refill)
  else s

/-- The expiry of a refill countdown is taken, when it is due, and before it those of the lower-numbered domains that are due
at the same park second (R134). -/
def State.refillsDueTo (s : State) (d : Domain) : State :=
  if (s.tokens d).countdown = some 0 then
    ((List.finRange 12).filter (fun e => decide (e ≤ d))).foldl State.refillDue s
  else s

/-- REFILL_EXPIRY: an expiry that finds no park second that brought the countdown to 0 has no effect (R134). -/
def execRefillExpiry (d : Domain) (s : State) : Host.Outcome State Fault Refusal := .next (s.refillsDueTo d)

/-- An AWAKE domain goes to WINDING with reason IDLE in PARK once its idle timer has expired and its min-awake timer has
elapsed (R87). -/
def State.windIfIdle (s : State) (d : Domain) : State :=
  if s.mode = .park ∧ (s.dom d).idleTimer = .expired ∧ (s.dom d).minAwakeTimer = none then
    s.enterWinding d .idle
  else s

/-- The expiry of the idle timer of an AWAKE domain is taken, when it is due (R84, R87). -/
def State.idleDue (s : State) (d : Domain) : State :=
  if (s.dom d).state = .awake ∧ (s.dom d).idleTimer = .running 0 then
    (s.updDom d (fun r => { r with idleTimer := .expired })).windIfIdle d
  else s

/-- IDLE_EXPIRY (R84, R87). -/
def execIdleExpiry (d : Domain) (s : State) : Host.Outcome State Fault Refusal := .next (s.idleDue d)

/-- The elapse of the min-awake timer of an AWAKE domain is taken, when it is due (R84, R87). -/
def State.minAwakeDue (s : State) (d : Domain) : State :=
  if (s.dom d).state = .awake ∧ (s.dom d).minAwakeTimer = some 0 then
    (s.updDom d (fun r => { r with minAwakeTimer := none })).windIfIdle d
  else s

/-- MIN_AWAKE_ELAPSE (R84, R87). -/
def execMinAwakeElapse (d : Domain) (s : State) : Host.Outcome State Fault Refusal := .next (s.minAwakeDue d)

/-- The expiries of one domain that are due (R84, R87, R134). -/
def State.domainDue (s : State) (d : Domain) : State := ((s.refillsDueTo d).minAwakeDue d).idleDue d

/-- Every expiry that is due is taken, as the commands of the expiries take it: of the timers in ascending order, and then of the
domains in the order D0 to D11 (R65, R134). That the kinds are taken in this order is THE MODEL'S CHOICE (assumption log 6). -/
def State.takeDue (s : State) : State := ((List.finRange 8).foldl State.timersDueTo s).eachDomain State.domainDue

/-! ### What a park second counts -/

/-- A running park timer counts a park second (R65). -/
def TimerRec.second (t : TimerRec) : TimerRec := if t.running then { t with remaining := t.remaining - 1 } else t

/-- The idle timer counts a park second (R84). -/
def IdleTimer.second (t : IdleTimer) : IdleTimer :=
  match t with
  | .running n => .running (n - 1)
  | .stopped => .stopped
  | .expired => .expired

/-- The idle and min-awake timers of an AWAKE domain count a park second (R84). -/
def DomainRec.second (r : DomainRec) : DomainRec :=
  if r.state = .awake then
    { r with idleTimer := r.idleTimer.second, minAwakeTimer := r.minAwakeTimer.map (fun n => n - 1) }
  else r

/-- A running refill countdown counts a park second (R134). -/
def TokenRec.second (t : TokenRec) : TokenRec := { t with countdown := t.countdown.map (fun n => n - 1) }

/-- The part of a park second that does not depend on the mode: the park clock, the moment of the next park second, the
park timers and the domain timers (R65, R84, R166). -/
def State.secondFalls (s : State) : State :=
  { s with
    management := { s.management with clock := s.management.clock + 1, secondLeft := Config.parkSecond }
    timerUnit := { s.timerUnit with timers := s.timerUnit.timers.map TimerRec.second }
    domains := s.domains.map DomainRec.second }

/-- The part of a park second that the Charge Account takes in PARK: the draw is added to A, the tier is recomputed and
a downward change shed, and the refill countdowns count (R122, R125, R134). -/
def State.accountSecond (s : State) : State :=
  let s := s.updAccount (fun a => { a.addCharge s.draw with tokens := a.tokens.map TokenRec.second })
  s.retier

/-- A park second falls (R166). -/
def State.second (s : State) : State :=
  match s.mode with
  | .park => s.secondFalls.accountSecond
  | .run => s.secondFalls

/-- PARK_SECOND: the expiries of the park second before, if any are still due, are taken first (R65, R84, R134, R166). Those
that this park second makes due are taken after it. R70 and R122 allow either order; THE MODEL'S CHOICE (assumption log 28) is
that the addition to A, the tier and a shedding at it come before every expiry of the same park second, so that a domain shed
there no longer winds IDLE, and that a timer's expiry is thinned by the new tier. -/
def execParkSecond (s : State) : Host.Outcome State Fault Refusal := .next s.takeDue.second

end Sys2Proof.Machine
end

