-- ==== Sys2Proof/Machine/Resets.lean ====
section
/-!
DEFINITION. The reset events (R172, R173), the two events of the Match Engine (R21, R24), and what one millisecond does
while no command waits.
-/

namespace Sys2Proof.Machine

/-! ### Resets -/

/-- POWER_ON_RESET: the strap pins read `strap` (R161, R173). -/
def execPowerOnReset (strap : BitVec 3) (s : State) : Host.Outcome State Fault Refusal := .next (s.powerOn strap)

/-- RESET_DEADLINE_EXPIRY: the deadline brings about the management reset while a reset is pending, and otherwise finds
nothing to do (R172). -/
def execResetDeadlineExpiry (s : State) : Host.Outcome State Fault Refusal :=
  if s.management.resetPending ∧ s.management.resetDeadline.isSome then .next s.managementReset else .next s

/-! ### The Match Engine -/

/-- MATCH_GRANT: the Match Arbiter grants the engine, when it can (R21). -/
def execMatchGrant (s : State) : Host.Outcome State Fault Refusal := .next s.grantMatch

/-- The engine holds no record: its evaluation has ended (R23). -/
def State.idleEngine (s : State) : State := s.updEngine (fun e => { e with inFlight := none })

/-- EVALUATION_COMPLETION: the match evaluation in flight completes; without one there is nothing to complete (R24). -/
def execEvaluationCompletion (s : State) : Host.Outcome State Fault Refusal :=
  match s.engine.inFlight with
  | some r => .next (s.idleEngine.complete r)
  | none => .next s

/-! ### The millisecond (R15, R50, R57, R65, R79, R89, R106, R166, R172) -/

/-- A count of milliseconds that one millisecond passes. A count in its last millisecond stays there: its expiry is a
command of its own (assumption log 2). -/
def countMs (n : Nat) : Nat := if n ≤ 1 then n else n - 1

/-- The recovery timer of a port counts (R15). -/
def PortUnit.ms (u : PortUnit) : PortUnit := { u with recovery := u.recovery.map countMs }

/-- The ready timer and the wind timer of a domain count (R79, R89). -/
def DomainRec.ms (r : DomainRec) : DomainRec :=
  { r with readyTimer := r.readyTimer.map countMs, windTimer := r.windTimer.map countMs }

/-- The hold of a slot holder counts (R106). -/
def HoldPhase.ms (h : HoldPhase) : HoldPhase :=
  match h with
  | .powering => .powering
  | .hold n => .hold (countMs n)

/-- Every count that runs on the 1 millisecond base is decremented, and the base advances (assumption log 2). -/
def State.countsMs (s : State) : State :=
  { s with
    management := { s.management with
      secondLeft := countMs s.management.secondLeft
      resetDeadline := s.management.resetDeadline.map countMs }
    ports := s.ports.map PortUnit.ms
    lineUnit := { s.lineUnit with sampleLeft := countMs s.lineUnit.sampleLeft }
    domains := s.domains.map DomainRec.ms
    slots := { s.slots with holders := s.slots.holders.map (fun h => h.map HoldPhase.ms) }
    timeBase := s.timeBase + 1 }

/-- One millisecond passes. First every expiry of a park second that is still due is taken, and every contribution that has
reached its window is removed (R50, R65, R84, R134; assumption logs 2 and 6). -/
def State.tick (s : State) : State := s.takeDue.expireContributions.countsMs

end Sys2Proof.Machine
end

