-- ==== Sys2Proof/Machine/Frames.lean ====
section
/-!
DEFINITION. Frames that a port takes off its bus (R3, R4, R9, R16, R162), and the request frames that are none of the
part's requests (R163).
-/

namespace Sys2Proof.Machine

/-- The Management Unit executes the request that a frame's data bytes stand for (R162, R163, R175). -/
def manageData (data : List Byte) (s : State) : State :=
  match decodeRequest data with
  | .identify tag args => manageIdentify tag args s
  | .readStatus tag args => manageReadStatus tag args s
  | .setClock tag args => manageSetClock tag args s
  | .injectFrame tag args => manageInjectFrame tag args s
  | .resetPrepare tag args => manageResetPrepare tag args s
  | .reset tag args => manageReset tag args s
  | .parkEnter tag args => manageParkEnter tag args s
  | .parkExit tag args => manageParkExit tag args s
  | .tableWriteEnable tag args => manageTableWriteEnable tag args s
  | .tableWriteDisable tag args => manageTableWriteDisable tag args s
  | .stageRowMatch tag args => manageStageRowMatch tag args s
  | .stageRowDataTest tag args => manageStageRowDataTest tag args s
  | .stageRowAction tag args => manageStageRowAction tag args s
  | .stageRowWakeSet tag args => manageStageRowWakeSet tag args s
  | .stageGroup tag args => manageStageGroup tag args s
  | .commitTable tag args => manageCommitTable tag args s
  | .readRowPart tag args => manageReadRowPart tag args s
  | .readHits tag args => manageReadHits tag args s
  | .setProtectBoundary tag args => manageSetProtectBoundary tag args s
  | .setDomainParameter tag args => manageSetDomainParameter tag args s
  | .readDomain tag args => manageReadDomain tag args s
  | .domainWake tag args => manageDomainWake tag args s
  | .domainSleep tag args => manageDomainSleep tag args s
  | .domainClearFault tag args => manageDomainClearFault tag args s
  | .setSlots tag args => manageSetSlots tag args s
  | .setBudget tag args => manageSetBudget tag args s
  | .readAccount tag args => manageReadAccount tag args s
  | .takeCauses tag args => manageTakeCauses tag args s
  | .setCaptureMode tag args => manageSetCaptureMode tag args s
  | .readCaptureDescriptor tag args => manageReadCaptureDescriptor tag args s
  | .readCaptureFrame tag args => manageReadCaptureFrame tag args s
  | .releaseCapture tag args => manageReleaseCapture tag args s
  | .configureLine tag args => manageConfigureLine tag args s
  | .readLines tag args => manageReadLines tag args s
  | .configureTimer tag args => manageConfigureTimer tag args s
  | .startTimer tag args => manageStartTimer tag args s
  | .stopTimer tag args => manageStopTimer tag args s
  | .readPortStatus tag args => manageReadPortStatus tag args s
  | _ => manageUnknown data s

/-- The data bytes that a record holds of a frame: as many as its length code says, 9 to 15 taken as 8 (R2, R3). -/
def frameData (lengthCode : BitVec 4) (bytes : List Byte) : List Byte :=
  (bytes ++ List.replicate 8 0).take (min lengthCode.toNat 8)

/-- FRAME_TAKEN: a frame of an unsupported format is counted; a frame at the request identifier on B is a request while B
is ACTIVE; and any other data frame is counted and becomes a record (R3, R4, R9, R16). -/
def execFrameTaken (p : Port) (frame : BusFrame) (s : State) : Host.Outcome State Fault Refusal :=
  match frame with
  | .data i lengthCode bytes =>
    let data := frameData lengthCode bytes
    if p = Port.B ∧ i = s.requestId then .next (s.requestFrame data (manageData data))
    else
      .next ((s.frameHeard p PortUnit.countReceived).updPort p (fun u => u.store (s.portRecord p i data)))
  | .remote _ => .next (s.frameHeard p PortUnit.countUnsupported)
  | .extended _ => .next (s.frameHeard p PortUnit.countUnsupported)
  | .extendedRemote _ => .next (s.frameHeard p PortUnit.countUnsupported)

/-- UNKNOWN_REQUEST: port B takes a request frame that is too short for its tag or whose code is no request code
(R163). -/
def execUnknownRequest (data : List Byte) (s : State) : Host.Outcome State Fault Refusal :=
  .next (s.requestFrame (data.take 8) (manageData (data.take 8)))

end Sys2Proof.Machine
end

