-- ==== Sys2Proof/Machine/Dispatch.lean ====
section
/-! DEFINITION. The meaning of every command, one arm for each. -/

namespace Sys2Proof.Machine

def exec (i : Instr) (s : State) : Host.Outcome State Fault Refusal :=
  match i with
  | .powerOnReset strap => Sys2Proof.Machine.execPowerOnReset strap s
  | .resetDeadlineExpiry => Sys2Proof.Machine.execResetDeadlineExpiry s
  | .frameTaken p frame => Sys2Proof.Machine.execFrameTaken p frame s
  | .unknownRequest data => Sys2Proof.Machine.execUnknownRequest data s
  | .identify tag args => Sys2Proof.Machine.execIdentify tag args s
  | .readStatus tag args => Sys2Proof.Machine.execReadStatus tag args s
  | .setClock tag args => Sys2Proof.Machine.execSetClock tag args s
  | .injectFrame tag args => Sys2Proof.Machine.execInjectFrame tag args s
  | .resetPrepare tag args => Sys2Proof.Machine.execResetPrepare tag args s
  | .reset tag args => Sys2Proof.Machine.execReset tag args s
  | .parkEnter tag args => Sys2Proof.Machine.execParkEnter tag args s
  | .parkExit tag args => Sys2Proof.Machine.execParkExit tag args s
  | .tableWriteEnable tag args => Sys2Proof.Machine.execTableWriteEnable tag args s
  | .tableWriteDisable tag args => Sys2Proof.Machine.execTableWriteDisable tag args s
  | .stageRowMatch tag args => Sys2Proof.Machine.execStageRowMatch tag args s
  | .stageRowDataTest tag args => Sys2Proof.Machine.execStageRowDataTest tag args s
  | .stageRowAction tag args => Sys2Proof.Machine.execStageRowAction tag args s
  | .stageRowWakeSet tag args => Sys2Proof.Machine.execStageRowWakeSet tag args s
  | .stageGroup tag args => Sys2Proof.Machine.execStageGroup tag args s
  | .commitTable tag args => Sys2Proof.Machine.execCommitTable tag args s
  | .commitCompletion => Sys2Proof.Machine.execCommitCompletion s
  | .readRowPart tag args => Sys2Proof.Machine.execReadRowPart tag args s
  | .readHits tag args => Sys2Proof.Machine.execReadHits tag args s
  | .setProtectBoundary tag args => Sys2Proof.Machine.execSetProtectBoundary tag args s
  | .setDomainParameter tag args => Sys2Proof.Machine.execSetDomainParameter tag args s
  | .readDomain tag args => Sys2Proof.Machine.execReadDomain tag args s
  | .domainWake tag args => Sys2Proof.Machine.execDomainWake tag args s
  | .domainSleep tag args => Sys2Proof.Machine.execDomainSleep tag args s
  | .domainClearFault tag args => Sys2Proof.Machine.execDomainClearFault tag args s
  | .setSlots tag args => Sys2Proof.Machine.execSetSlots tag args s
  | .setBudget tag args => Sys2Proof.Machine.execSetBudget tag args s
  | .readAccount tag args => Sys2Proof.Machine.execReadAccount tag args s
  | .takeCauses tag args => Sys2Proof.Machine.execTakeCauses tag args s
  | .setCaptureMode tag args => Sys2Proof.Machine.execSetCaptureMode tag args s
  | .readCaptureDescriptor tag args => Sys2Proof.Machine.execReadCaptureDescriptor tag args s
  | .readCaptureFrame tag args => Sys2Proof.Machine.execReadCaptureFrame tag args s
  | .releaseCapture tag args => Sys2Proof.Machine.execReleaseCapture tag args s
  | .configureLine tag args => Sys2Proof.Machine.execConfigureLine tag args s
  | .readLines tag args => Sys2Proof.Machine.execReadLines tag args s
  | .configureTimer tag args => Sys2Proof.Machine.execConfigureTimer tag args s
  | .startTimer tag args => Sys2Proof.Machine.execStartTimer tag args s
  | .stopTimer tag args => Sys2Proof.Machine.execStopTimer tag args s
  | .readPortStatus tag args => Sys2Proof.Machine.execReadPortStatus tag args s
  | .matchGrant => Sys2Proof.Machine.execMatchGrant s
  | .evaluationCompletion => Sys2Proof.Machine.execEvaluationCompletion s
  | .slotGrant => Sys2Proof.Machine.execSlotGrant s
  | .readyTimerExpiry d => Sys2Proof.Machine.execReadyTimerExpiry d s
  | .holdExpiry d => Sys2Proof.Machine.execHoldExpiry d s
  | .idleExpiry d => Sys2Proof.Machine.execIdleExpiry d s
  | .minAwakeElapse d => Sys2Proof.Machine.execMinAwakeElapse d s
  | .windExpiry d => Sys2Proof.Machine.execWindExpiry d s
  | .transmissionStart p => Sys2Proof.Machine.execTransmissionStart p s
  | .transmissionEnd p o => Sys2Proof.Machine.execTransmissionEnd p o s
  | .recoveryTimerExpiry p => Sys2Proof.Machine.execRecoveryTimerExpiry p s
  | .replayStart p => Sys2Proof.Machine.execReplayStart p s
  | .bufferFree => Sys2Proof.Machine.execBufferFree s
  | .contributionExpiry g taken => Sys2Proof.Machine.execContributionExpiry g taken s
  | .lineSample levels => Sys2Proof.Machine.execLineSample levels s
  | .parkSecond => Sys2Proof.Machine.execParkSecond s
  | .refillExpiry d => Sys2Proof.Machine.execRefillExpiry d s
  | .timerExpiry t => Sys2Proof.Machine.execTimerExpiry t s

end Sys2Proof.Machine
end

