-- ==== Sys2Proof/Machine/Step.lean ====
section
/-! DEFINITION. One step of the part: the command at the front of the queue, or one millisecond where none waits. -/

namespace Sys2Proof.Machine

/-- The state with the queue of waiting commands set. -/
def State.withPending (s : State) (cs : List Instr) : State := { s with pending := cs }

/-- One step. The command at the front of the queue leaves it and takes its effect. While no command waits, one
millisecond passes (assumption log 2). -/
def step (s : State) : Host.Outcome State Fault Refusal :=
  match s.pending with
  | c :: rest => exec c (s.withPending rest)
  | [] => .next s.tick

/-- The state with the command that a word spells in front of its queue, and the same state where the word spells none
(assumption log 3). -/
def State.withFetchWord (s : State) (nbits w : Nat) : State :=
  match decodeTableWord nbits w with
  | some c => s.withPending (c :: s.pending)
  | none => s

end Sys2Proof.Machine
end

