-- ==== Sys2Proof/Safety.lean ====
section
/-!
DEFINITION. What counts as a safe state of the part: the properties that the manual states of every moment of its
working, block by block, and their conjunction.
-/

namespace Sys2Proof.Machine

/-- D0 is attached to B, and every other domain to a segment port (R1). -/
abbrev State.AttachmentsFit (s : State) : Prop := ∀ d : Domain, s.portOf d = Port.B ↔ d = Domain.D0

/-- Every port holds the state that the mode and the domains attached to it derive (R5). -/
abbrev State.PortsFollow (s : State) : Prop := ∀ p : Port, (s.port p).active = s.derivedActive p

/-- A BLOCKED port is ACTIVE, the recovery timer runs exactly while the port is BLOCKED, and an attempt that the port
has not left behind runs on an ACTIVE port (R8, R13, R15, R16). -/
abbrev State.BlockingFits (s : State) : Prop :=
  ∀ p : Port, ((s.port p).blocked = true → (s.port p).active = true) ∧
    (s.port p).recovery.isSome = (s.port p).blocked ∧
    (∀ a ∈ (s.port p).attempt, a.detached = false → (s.port p).active = true)

/-- The queues hold no more than their capacities (R1, R9, R10, R60, R71, R139, R170). -/
abbrev State.QueuesFit (s : State) : Prop :=
  (∀ p : Port, (s.port p).rx.length ≤ Config.receiveFifo ∧ (s.port p).frameEntries ≤ Config.forwardQueue) ∧
    s.lineUnit.queue.length ≤ Config.lineQueue ∧ s.timerUnit.queue.length ≤ Config.timerQueue ∧
    s.management.injection.length ≤ Config.injectionQueue ∧ s.causes.records.length ≤ Config.causeQueue

/-- The domain of a notice entry (R10). -/
def FwdEntry.noticeDomain (e : FwdEntry) : Option Domain :=
  match e with
  | .frame _ _ _ => none
  | .notice d _ _ => some d

/-- The kind that a notice field gives an entry of its domain: the sleep fields a sleep notice and the cancel fields a cancel
notice, and no entry where the field is NONE or SLEEP SENT (R75, R88, R91, R93). -/
def NoticeField.fits (n : NoticeField) (k : NoticeKind) : Bool :=
  match n, k with
  | .sleepQueued, .sleep _ => true
  | .withdrawingSleep, .sleep _ => true
  | .cancelQueued, .cancel => true
  | .withdrawingCancel, .cancel => true
  | _, _ => false

/-- The states in which a domain may have a notice field: SLEEP QUEUED and SLEEP SENT in WINDING, CANCEL QUEUED in AWAKE and
WINDING, and the others in any (R88, R91, R93). -/
def NoticeField.fitsState (n : NoticeField) (st : DomainState) : Bool :=
  match n with
  | .sleepQueued => st == .winding
  | .sleepSent => st == .winding
  | .cancelQueued => st.activates
  | _ => true

/-- A forward queue holds at most one notice entry of a domain, and the queues of all ports together no more than one; an
entry has the kind of its domain's notice field. It stands in the queue of the domain's port, or, once its withdrawal has
been asked for, is the entry in transmission of a port whose attempt is asked to remove it. A domain whose field calls for an
entry has one (R10, R12, R88, R91, R93). -/
abbrev State.NoticesFit (s : State) : Prop :=
  (∀ p : Port, ((s.port p).fwd.filterMap FwdEntry.noticeDomain).Nodup) ∧
    (∀ p : Port, ∀ e ∈ (s.port p).fwd, ∀ d ∈ e.noticeDomain, ∀ k ∈ (s.port p).noticeOf d,
      (s.dom d).notice.fits k = true ∧
      ((s.dom d).notice.isWithdrawing = false → p = s.portOf d) ∧
      ((s.dom d).notice.isWithdrawing = true →
        (s.port p).sendingNoticeOf d = true ∧ ∀ a ∈ (s.port p).attempt, a.removal = true) ∧
      (∀ q : Port, q ≠ p → (s.port q).noticeOf d = none)) ∧
    (∀ p : Port, ∀ a ∈ (s.port p).attempt, a.removal = true →
      a.sending = .queueHead ∧
        ∃ e ∈ (s.port p).fwd.head?, ∃ d ∈ e.noticeDomain, (s.dom d).notice.isWithdrawing = true) ∧
    (∀ d : Domain, (s.dom d).notice.fitsState (s.dom d).state = true ∧
      ((s.dom d).notice ≠ .none → (s.dom d).notice ≠ .sleepSent →
        ∃ p : Port, ((s.port p).noticeOf d).isSome = true))

/-- The threshold of a group lies between 1 and 8 in both copies. A contribution list holds fewer entries than the group's
threshold, at most one for a row, oldest first, and no entry that is older than the group's window (R45, R48 to R51). -/
abbrev State.ContributionsFit (s : State) : Prop :=
  ∀ g : GroupIx,
    (1 ≤ (s.engine.active.groups.get g).threshold ∧ (s.engine.active.groups.get g).threshold ≤ 8) ∧
      (1 ≤ (s.engine.staging.groups.get g).threshold ∧ (s.engine.staging.groups.get g).threshold ≤ 8) ∧
      (s.contributions.get g).length < (s.engine.active.groups.get g).threshold ∧
      ((s.contributions.get g).map Contribution.row).Nodup ∧
      (s.contributions.get g).Pairwise (fun a b => a.taken ≤ b.taken) ∧
      (∀ e ∈ s.contributions.get g, e.taken ≤ s.timeBase ∧
        s.timeBase ≤ e.taken + (s.engine.active.groups.get g).window)

/-- The counters lie within their ranges (R14, R17, R35, R71, R75, R124, R139, R142, R143). -/
abbrev State.CountersFit (s : State) : Prop :=
  (∀ p : Port, (s.port p).failures ≤ Config.failureLimit ∧ (s.port p).received ≤ Config.counterMax ∧
      (s.port p).unmatched ≤ Config.counterMax ∧ (s.port p).unsupported ≤ Config.counterMax ∧
      (s.port p).overrun ≤ Config.counterMax ∧ (s.port p).forwardDrop ≤ Config.counterMax ∧
      (s.port p).forwardSkipped ≤ Config.counterMax ∧ (s.port p).transmitFailure ≤ Config.counterMax) ∧
    (∀ i : RowIx, s.engine.hits.get i ≤ Config.counterMax) ∧
    (∀ t : TimerIx, (s.timerUnit.timers.get t).lost ≤ Config.byteMax) ∧
    (∀ d : Domain, (s.dom d).forcedSleep ≤ Config.counterMax ∧ (s.dom d).faults ≤ Config.counterMax ∧
      (s.dom d).ignored ≤ Config.counterMax) ∧
    s.account.spent ≤ Config.chargeMax ∧ s.causes.overflow ≤ Config.byteMax ∧
    s.capture.loss ≤ Config.counterMax ∧ (∀ b ∈ s.capture.buffers, b.skipped ≤ Config.counterMax)

/-- The staging rows below the protect boundary equal the active rows (R42). -/
abbrev State.ProtectedRowsAgree (s : State) : Prop :=
  ∀ i : RowIx, i.val < s.engine.boundary → s.engine.staging.rows.get i = s.engine.active.rows.get i

/-- The table-write latch is set whenever a commit is pending (R38, R39, R41). -/
abbrev State.LatchFits (s : State) : Prop := s.engine.commitPending = true → s.engine.latch = true

/-- The enable line of a domain is asserted exactly while the domain is POWERING, AWAKE or WINDING (R77). -/
abbrev State.EnableFollows (s : State) : Prop := ∀ d : Domain, (s.dom d).enable = (s.dom d).state.powered

/-- A domain has a wake class exactly while it is QUEUED, POWERING, AWAKE or WINDING (R98). -/
abbrev State.ClassesFit (s : State) : Prop :=
  ∀ d : Domain, (s.dom d).wakeClass.isSome = (s.dom d).state.standing

/-- The slot-held flag of a domain is set exactly while it has a holder record, the record is in the POWERING phase
exactly while the domain is POWERING, and a hold runs only while the domain is AWAKE or WINDING (R102, R106, R107). -/
abbrev State.HoldersFit (s : State) : Prop :=
  ∀ d : Domain, (s.dom d).slotHeld = (s.slots.holders.get d).isSome ∧
    (s.slots.holders.get d = some .powering ↔ (s.dom d).state = .powering) ∧
    ((s.dom d).state.activates = false → (s.dom d).state ≠ .powering → s.slots.holders.get d = none)

/-- The wait queue holds one entry for each QUEUED domain, with the domain's wake class, and none for any other; it is
in the order of R103, and no two of its entries have one join order (R102, R103, R104). -/
abbrev State.WaitQueueFits (s : State) : Prop :=
  (∀ d : Domain, (∃ e ∈ s.slots.queue, e.domain = d) ↔ (s.dom d).state = .queued) ∧
    (∀ e ∈ s.slots.queue, (s.dom e.domain).wakeClass = some e.cls ∧ e.join < s.slots.nextJoin) ∧
    s.slots.queue.Pairwise (fun a b => a.before b = true ∧ a.domain ≠ b.domain ∧ a.join ≠ b.join)

/-- The slot count is 1 to 4, and no more than four domains hold a slot (R102, R105). -/
abbrev State.SlotsFit (s : State) : Prop :=
  1 ≤ s.slots.count ∧ s.slots.count ≤ 4 ∧ s.slots.holderCount ≤ 4

/-- In PARK the tier is the one that the remaining charge prescribes (R125). -/
abbrev State.TierFits (s : State) : Prop := s.mode = .park → s.account.tier = s.account.prescribedTier

/-- In PARK no domain is QUEUED, POWERING or AWAKE at a class that the tier does not serve (R126, R127). -/
abbrev State.ShedComplete (s : State) : Prop :=
  s.mode = .park → ∀ d : Domain, (s.dom d).selectedBy s.account.tier = false

/-- The tokens of a domain lie between 0 and its token cap, and its refill countdown is stopped at the cap (R133 to
R136). -/
abbrev State.TokensFit (s : State) : Prop :=
  ∀ d : Domain, (s.tokens d).tokens ≤ (s.dom d).params.tokenCap ∧
    ((s.tokens d).countdown.isSome = true → (s.tokens d).tokens < (s.dom d).params.tokenCap)

/-- The slots of a buffer of `size` slots are used from slot 0 on: none while the stop slot is absent, and up to the stop
slot, or all of them, once it is present (R143, R145). -/
abbrev Buffer.FramesFit (b : Buffer) (size : Nat) : Prop :=
  b.slots.length ≤ size ∧
    (b.stop = none → b.slots = [] ∧ b.wrapped = false) ∧
    (∀ k ∈ b.stop, k < b.slots.length ∧ (b.slots.length < size → b.slots.length = k + 1 ∧ b.wrapped = false))

/-- The buffers, the pointers and the frame slots fit the store mode (R142, R143, R145). -/
abbrev State.StoreFits (s : State) : Prop :=
  s.capture.buffers.length = bufferCount s.capture.mode ∧ s.capture.writePtr < bufferCount s.capture.mode ∧
    s.capture.readPtr < bufferCount s.capture.mode ∧ s.capture.post < bufferSize s.capture.mode ∧
    (∀ b ∈ s.capture.buffers, b.FramesFit (bufferSize s.capture.mode))

/-- Only the buffer at the write pointer is OPEN or POST, and only in PARK; in PARK that buffer is not FREE; and a POST
buffer has post frames left, since it closes at the end of the event that takes the last (R144, R148). -/
abbrev State.RecordingFits (s : State) : Prop :=
  (∀ j < bufferCount s.capture.mode, (s.buffer j).recording = true → j = s.capture.writePtr ∧ s.mode = .park) ∧
    (s.mode = .park → (s.buffer s.capture.writePtr).state ≠ .free) ∧
    ((s.buffer s.capture.writePtr).state = .post → (s.buffer s.capture.writePtr).postLeft ≠ 0)

/-- The delivered set of a stored frame is a subset of its forward set (R143). -/
abbrev State.DeliveredFits (s : State) : Prop :=
  ∀ b ∈ s.capture.buffers, ∀ f ∈ b.slots, f.delivered &&& ~~~f.forward = 0

/-- The buffer and the slot that an attempt sends from, if it sends a replay frame (R150). -/
def Attempt.slotSent (a : Attempt) : Option (Nat × Nat) :=
  match a.sending with
  | .replay j slot => some (j, slot)
  | .queueHead => none

/-- A replay in flight names a CLOSED buffer that has the port pending, and a replay attempt in progress sends a frame
that is meant for the port out of a buffer that is not yet freed (R149, R150, R154, R155). -/
abbrev State.ReplaysFit (s : State) : Prop :=
  ∀ p : Port,
    (∀ j ∈ (s.port p).replay, (s.buffer j).state = .closed ∧ hasPort (s.buffer j).pending p = true) ∧
      (∀ a ∈ (s.port p).attempt,
        (a.slotSent = none → (s.port p).fwd ≠ []) ∧
          ∀ x ∈ a.slotSent,
            ((s.buffer x.1).state = .closed ∨ (s.buffer x.1).state = .done) ∧
              ∃ f ∈ (s.buffer x.1).frame x.2, hasPort f.forward p = true)

/-- A CLOSED buffer has a port pending (R148, R154). -/
abbrev State.ClosedPending (s : State) : Prop :=
  ∀ b ∈ s.capture.buffers, b.state = .closed → b.pending ≠ 0

end Sys2Proof.Machine
end

