-- ==== Sys2Proof/WellFormed.lean ====
section
/-!
DEFINITION. Which commands can be given to the part at all.
-/

namespace Sys2Proof

/-- A frame that a CAN bus can carry: a data frame holds as many bytes as its length code says, and codes 9 to 15 stand
for 8 bytes (R3). -/
def BusFrame.wellFormed (f : BusFrame) : Bool :=
  match f with
  | .data _ lengthCode bytes => bytes.length == min lengthCode.toNat 8
  | .remote _ => true
  | .extended _ => true
  | .extendedRemote _ => true

/-- A command that can be given. A management request fits in one frame of at most eight data bytes, so it has at most
six argument bytes (section 10.3). An UNKNOWN_REQUEST is a frame that stands for no request of the part (R163), and a
frame that is taken is a frame that a bus can carry. -/
def Instr.wellFormed (i : Instr) : Bool :=
  match i with
  | .frameTaken _ frame => frame.wellFormed
  | .unknownRequest data => data.length ≤ 8 && decodeRequest data == .unknownRequest data
  | i =>
    match requestBytes i with
    | some bytes => bytes.length ≤ 8
    | none => true

end Sys2Proof
end

