-- ==== Sys2Proof/Certificates/Slice0/Obligations.lean ====
section
/-!
DEFINITION. The statements for the provers, and the terms they are written in. A statement names the rules of spec/ that it
formalises, or says that it rests on a choice of the model.
-/

namespace Sys2Proof.Claims

open Sys2Proof.Machine

/-! ### Terms -/

/-- The command answers a next state, and the next state has the property. -/
def Completes (o : Host.Outcome State Fault Refusal) (post : State → Prop) : Prop := ∃ t, o = .next t ∧ post t

/-- The requests that port B takes are executed: B is ACTIVE, and no reset is pending (R162, R172). -/
abbrev Executes (s : State) : Prop := (s.port Port.B).active = true ∧ s.management.resetPending = false

/-- A 16-bit counter after one more occurrence (R17). -/
def counted (n : Nat) : Nat := if n < 65535 then n + 1 else n

/-- The state with one Port Unit replaced. -/
def onPort (s : State) (p : Port) (u : PortUnit) : State := { s with ports := s.ports.set p u }

/-- The state with one domain record replaced. -/
def onDomain (s : State) (d : Domain) (r : DomainRec) : State := { s with domains := s.domains.set d r }

/-- A port that has taken a valid frame off its bus: it is not BLOCKED, and one that was has its recovery timer stopped
and its failure count 0 (R3, R16). -/
def hearing (u : PortUnit) : PortUnit :=
  { u with
    blocked := false
    recovery := if u.blocked then none else u.recovery
    failures := if u.blocked then 0 else u.failures }

/-- A port that has taken a classical data frame: it is also counted as received (R3, R17). -/
def heardUnit (u : PortUnit) : PortUnit := { hearing u with received := counted u.received }

/-- The state after port B has taken a request frame and before the request has any effect of its own: the frame is
counted, and the reset-prepared flag is clear (R3, R16, R17, R171). -/
def taken (s : State) : State :=
  { onPort s Port.B (heardUnit (s.port Port.B)) with management := { s.management with prepared := false } }

/-- A port with a frame entry offered by the Management Unit: appended at the tail, or dropped and counted when 24 frame
entries are held (R11). -/
def offered (u : PortUnit) (e : FwdEntry) : PortUnit :=
  if u.frameEntries < 24 then { u with fwd := u.fwd ++ [e] } else { u with forwardDrop := counted u.forwardDrop }

/-- The state with a response offered to port B: a frame entry at the response identifier (R164). -/
def answered (s : State) (bytes : List Byte) : State :=
  onPort s Port.B (offered (s.port Port.B) (.frame s.responseId bytes false))

/-- A port with a record offered to its receive FIFO: appended, or lost with the newest stored record marked, the overrun
counted and the overrun flag set (R9). -/
def stored (u : PortUnit) (r : FrameRecord) : PortUnit :=
  if u.rx.length < 16 then { u with rx := u.rx ++ [r] }
  else
    { u with
      rx := u.rx.dropLast ++ u.rx.getLast?.toList.map (fun x => { x with overrunMark := true })
      overrun := counted u.overrun
      overrunSeen := true }

/-- The record of a frame that a port takes (R2). -/
def frameRecord (s : State) (p : Port) (i : Ident) (data : List Byte) : FrameRecord where
  source := .port p
  ident := i
  data := data
  arrival := s.management.clock
  overrunMark := false
  injected := false

/-- The state after the management reset of a part in state `s`: every block at its value after reset with D0's RESET wake
taken, but for what the Management Unit keeps (R101, R173). THE MODEL'S CHOICE (assumption log 20): the time base and the
waiting commands are kept as well. -/
def afterManagementReset (s : State) : State :=
  { State.reset with
    management := { State.reset.management with
      strap := s.management.strap
      epoch := s.management.epoch
      clock := s.management.clock
      secondLeft := s.management.secondLeft }
    causes := { records := [{ resetCause with second := s.management.clock }], overflow := 0 }
    timeBase := s.timeBase
    pending := s.pending }

/-- The state that a command leaves. -/
def after (c : Instr) (s : State) : State :=
  match exec c s with
  | .next t => t
  | _ => s

/-- The commands of the expiries that a park second may make due: those of the timers, and then for each domain those of its
refill countdown, its min-awake timer and its idle timer (assumption log 6). -/
def dueCommands : List Instr :=
  (List.finRange 8).map Instr.timerExpiry ++
    (List.finRange 12).flatMap (fun d => [.refillExpiry d, .minAwakeElapse d, .idleExpiry d])

/-- The state once every expiry that is due has been taken (assumption log 6). -/
def settled (s : State) : State := dueCommands.foldl (fun s c => after c s) s

/-- No expiry of a park second is due: no running count of park seconds stands at 0. -/
abbrev NothingDue (s : State) : Prop :=
  (∀ k : TimerIx, (s.timerUnit.timers.get k).running = true → (s.timerUnit.timers.get k).remaining ≠ 0) ∧
    ∀ d : Domain, (s.account.tokens.get d).countdown ≠ some 0 ∧ (s.dom d).minAwakeTimer ≠ some 0 ∧
      (s.dom d).idleTimer ≠ .running 0

/-- A count of park seconds as it is reported: one whose expiry is due and not yet taken shows 1 (assumption log 6). -/
def shown (n : Nat) : Nat := if n = 0 then 1 else n

/-- The set of the ports that a test picks (R174). -/
def portsWhere (f : Port → Bool) : PortSet :=
  BitVec.ofNat 7 ((List.finRange 7).map (fun p => if f p = true then 2 ^ p.val else 0)).sum

/-- A buffer records (R144). -/
abbrev recordsInto (b : Buffer) : Prop := b.state = .opened ∨ b.state = .post

/-- The number of the frames of a buffer that are due on a port: meant for it and not delivered to it (R149). -/
def dueOn (b : Buffer) (p : Port) : Nat := b.slots.countP (fun f => hasPort f.forward p && !hasPort f.delivered p)

/-- A buffer that a port has left; a CLOSED one is DONE when no port is left (R150, R154). -/
def left (b : Buffer) (p : Port) : Buffer :=
  let pending := b.pending &&& ~~~onlyPort p
  { b with pending := pending, state := if b.state = .closed ∧ pending = 0 then .done else b.state }

/-- A buffer that a port leaves undelivered, at an abort or a removal: the frames still due there are skipped (R152, R153). -/
def givenUp (b : Buffer) (p : Port) : Buffer := left { b with skipped := min 65535 (b.skipped + dueOn b p) } p

/-- A buffer closed at a park second: no post frame remains, the ports with no frame due have left its pending set, and it is
DONE where none is left (R148). -/
def closedBuffer (b : Buffer) (second : BitVec 32) : Buffer :=
  let pending := portsWhere (fun p => hasPort b.pending p && dueOn b p != 0)
  { b with
    state := if pending = 0 then .done else .closed
    closeSecond := second
    postLeft := 0
    pending := pending }

/-- The Capture Store once the buffer at the write pointer has closed, with `b` what it held: the write pointer advances, and
in PARK the next buffer opens if it is FREE (R144, R148). -/
def afterClosing (m : Management) (c : CaptureStore) (b : Buffer) : CaptureStore :=
  let next := (c.writePtr + 1) % (32 / 2 ^ c.mode.val)
  let buffers := c.buffers.set c.writePtr (closedBuffer b m.clock)
  { c with
    writePtr := next
    buffers :=
      if m.mode = .park ∧ (buffers.getD next Buffer.free).state = .free then
        buffers.modify next (fun x => { x with state := .opened, epoch := m.epoch })
      else buffers }

/-- The two bytes of a 16-bit value, most significant first (R174). -/
def two (n : Nat) : List Byte := [BitVec.ofNat 8 (n / 256), BitVec.ofNat 8 n]

/-- The request code, the tag, the arguments and the number of argument bytes that R175 gives, for each management
request. -/
def request (i : Instr) : Option (Byte × Byte × List Byte × Nat) :=
  match i with
  | .identify tag args => some (0x01, tag, args, 0)
  | .readStatus tag args => some (0x02, tag, args, 1)
  | .setClock tag args => some (0x03, tag, args, 4)
  | .parkEnter tag args => some (0x04, tag, args, 0)
  | .parkExit tag args => some (0x05, tag, args, 0)
  | .tableWriteEnable tag args => some (0x08, tag, args, 0)
  | .tableWriteDisable tag args => some (0x09, tag, args, 0)
  | .stageRowMatch tag args => some (0x0A, tag, args, 6)
  | .stageRowDataTest tag args => some (0x0B, tag, args, 4)
  | .stageRowAction tag args => some (0x0C, tag, args, 4)
  | .stageRowWakeSet tag args => some (0x0D, tag, args, 3)
  | .stageGroup tag args => some (0x0E, tag, args, 6)
  | .commitTable tag args => some (0x0F, tag, args, 0)
  | .readRowPart tag args => some (0x10, tag, args, 3)
  | .readHits tag args => some (0x11, tag, args, 1)
  | .setProtectBoundary tag args => some (0x12, tag, args, 1)
  | .setDomainParameter tag args => some (0x18, tag, args, 6)
  | .readDomain tag args => some (0x19, tag, args, 3)
  | .domainWake tag args => some (0x1A, tag, args, 1)
  | .domainSleep tag args => some (0x1B, tag, args, 1)
  | .domainClearFault tag args => some (0x1C, tag, args, 1)
  | .setSlots tag args => some (0x1D, tag, args, 1)
  | .setBudget tag args => some (0x20, tag, args, 6)
  | .readAccount tag args => some (0x21, tag, args, 3)
  | .takeCauses tag args => some (0x22, tag, args, 1)
  | .setCaptureMode tag args => some (0x28, tag, args, 2)
  | .readCaptureDescriptor tag args => some (0x29, tag, args, 3)
  | .releaseCapture tag args => some (0x2A, tag, args, 0)
  | .readCaptureFrame tag args => some (0x2B, tag, args, 3)
  | .configureLine tag args => some (0x30, tag, args, 4)
  | .readLines tag args => some (0x31, tag, args, 1)
  | .configureTimer tag args => some (0x32, tag, args, 4)
  | .startTimer tag args => some (0x33, tag, args, 1)
  | .stopTimer tag args => some (0x34, tag, args, 1)
  | .injectFrame tag args => some (0x38, tag, args, 3)
  | .readPortStatus tag args => some (0x39, tag, args, 2)
  | .resetPrepare tag args => some (0x3E, tag, args, 0)
  | .reset tag args => some (0x3F, tag, args, 0)
  | _ => none

/-- The argument bytes that a request uses: those that it needs, the class byte of a Domain Wake (0x1A) and the data bytes of
an Inject Frame (0x38) when it carries them (R94, R163, R175). -/
def usedBytes (code : Byte) (needed : Nat) : Nat := if code = 0x1A then 2 else if code = 0x38 then 6 else needed

end Sys2Proof.Claims

open Sys2Proof Sys2Proof.Machine Sys2Proof.Claims

/-! ### The machine -/

/-- A step takes the command at the front of the queue and is that command's effect on the rest. -/
def Obligations.StepRunsTheFrontCommand : Prop :=
  ∀ (c : Instr) (cs : List Instr) (s : State), step { s with pending := c :: cs } = exec c { s with pending := cs }

/-- THE MODEL'S CHOICE (assumption logs 2 and 6). A step that finds no command takes every expiry of a park second that is
still due, removes the contributions that have reached their group's window (R50), and lets one millisecond pass: the time base
rises by one, and each count of milliseconds above 1 falls by one and none expires, so that no more changes. Where no expiry is
due, the first of these changes nothing. -/
def Obligations.AnIdleStepIsOneMillisecond : Prop :=
  (∀ s : State, s.pending = [] →
    Completes (step s) fun t =>
      let z := settled s
      t.timeBase = s.timeBase + 1 ∧ z.timeBase = s.timeBase ∧
      t.management = { z.management with
        secondLeft := z.management.secondLeft - (if 1 < z.management.secondLeft then 1 else 0)
        resetDeadline := z.management.resetDeadline.map (fun n => n - if 1 < n then 1 else 0) } ∧
      (∀ p : Port, t.port p =
        { z.port p with recovery := (z.port p).recovery.map (fun n => n - if 1 < n then 1 else 0) }) ∧
      (∀ d : Domain, t.dom d =
        { z.dom d with
          readyTimer := (z.dom d).readyTimer.map (fun n => n - if 1 < n then 1 else 0)
          windTimer := (z.dom d).windTimer.map (fun n => n - if 1 < n then 1 else 0) }) ∧
      (∀ d : Domain, t.slots.holders.get d =
        match z.slots.holders.get d with
        | some (.hold n) => some (.hold (n - if 1 < n then 1 else 0))
        | h => h) ∧
      t.lineUnit = { s.lineUnit with
        sampleLeft := s.lineUnit.sampleLeft - if 1 < s.lineUnit.sampleLeft then 1 else 0 } ∧
      (∀ g : GroupIx, t.contributions.get g =
        (s.contributions.get g).filter (fun e => decide (s.timeBase < e.taken + (s.engine.active.groups.get g).window))) ∧
      t.slots.queue = z.slots.queue ∧ t.engine = s.engine ∧ t.timerUnit = z.timerUnit ∧ t.account = z.account ∧
      t.capture = z.capture ∧ t.causes = z.causes ∧ t.pointer = s.pointer ∧ t.pending = []) ∧
  (∀ s : State, NothingDue s → settled s = s)

/-- THE MODEL'S CHOICE: that no command ends in a fault or a refusal, whatever its operands and the state, is assumption log
24, and that a reset keeps the commands that wait is assumption log 20. Every command completes, and none touches the commands
that wait behind it. -/
def Obligations.EveryCommandCompletesAndKeepsTheQueue : Prop :=
  ∀ (i : Instr) (s : State), Completes (exec i s) fun t => t.pending = s.pending

/-- R41: the active table is what it was, or it is the staging copy taken at a commit completion, which also clears the
hit counts, the contribution lists, the latch and the commit-pending flag, or the engine is as a reset leaves it. -/
def Obligations.TheActiveTableChangesOnlyAtCommitOrReset : Prop :=
  ∀ (i : Instr) (s t : State), exec i s = .next t →
    t.engine.active = s.engine.active ∨
    (t.engine.active = s.engine.staging ∧ t.engine.staging = s.engine.staging ∧
      (∀ r : RowIx, t.engine.hits.get r = 0) ∧ (∀ g : GroupIx, t.contributions.get g = []) ∧
      t.engine.latch = false ∧ t.engine.commitPending = false) ∨
    t.engine = Engine.atReset

/-! ### Invariants -/

/-- R1, R5, R8, R15, R16, R77: every step keeps each enable line asserted exactly while its domain is POWERING, AWAKE or
WINDING, D0 alone on B, every port in the state that R5 derives, and every BLOCKED port ACTIVE with its recovery timer
running. -/
def Obligations.EnableLinesAndPortsFollowTheDomains : Prop :=
  (∀ s t : State, s.EnableFollows → step s = .next t → t.EnableFollows) ∧
  (∀ s t : State, s.AttachmentsFit → s.PortsFollow → s.BlockingFits → step s = .next t →
     t.AttachmentsFit ∧ t.PortsFollow ∧ t.BlockingFits)

/-- R9, R10, R12, R14, R17, R35, R45, R48 to R51, R60, R71, R75, R88, R91, R93, R124, R139, R142, R143, R170: every step keeps
the queues within their capacities and the counters within their ranges. It keeps at most one notice entry of each domain in
the forward queues, where the domain's notice field says that it stands. It keeps each contribution list shorter than its
group's threshold, which is at most 8, with one entry for a row, oldest first and none older than the window. -/
def Obligations.QueuesAndCountersStayInRange : Prop :=
  (∀ s t : State, s.QueuesFit → s.CountersFit → step s = .next t → t.QueuesFit ∧ t.CountersFit) ∧
  (∀ s t : State, s.ClassesFit → s.HoldersFit → s.WaitQueueFits → s.NoticesFit → step s = .next t → t.NoticesFit) ∧
  (∀ s t : State, s.ContributionsFit → step s = .next t → t.ContributionsFit)

/-- R38, R39, R42: every step keeps the staging rows below the protect boundary equal to the active rows, and the latch set
while a commit is pending. An active row below the boundary is unchanged by every command but a reset, and the boundary
never falls but at a reset. -/
def Obligations.ProtectedRowsAndTheLatchHold : Prop :=
  (∀ s t : State, s.ProtectedRowsAgree → s.LatchFits → step s = .next t → t.ProtectedRowsAgree ∧ t.LatchFits) ∧
  (∀ (i : Instr) (s t : State), s.ProtectedRowsAgree → exec i s = .next t →
     ((∀ r : RowIx, r.val < s.engine.boundary → t.engine.active.rows.get r = s.engine.active.rows.get r) ∧
       s.engine.boundary ≤ t.engine.boundary) ∨
     t.engine = Engine.atReset)

/-- R98, R102 to R108: every step keeps the wake classes, the slot-held flags, the holder records and the wait queue in
agreement with the states of the domains, and the wait queue in the order of class and then join, with no join order in it
twice. It also keeps the slot count from 1 to 4 and no more than four holders. -/
def Obligations.SlotsFollowTheDomains : Prop :=
  (∀ s t : State, s.ClassesFit → s.HoldersFit → s.WaitQueueFits → step s = .next t →
     t.ClassesFit ∧ t.HoldersFit ∧ t.WaitQueueFits) ∧
  (∀ s t : State, s.SlotsFit → step s = .next t → t.SlotsFit)

/-- R124 to R127: every step keeps the tier in PARK the one that the remaining charge and the thresholds prescribe, and every
domain that is QUEUED, POWERING or AWAKE in PARK at a class that the tier admits. -/
def Obligations.TheTierIsPrescribedAndShedComplete : Prop :=
  (∀ s t : State, s.TierFits → s.account.spent ≤ Config.chargeMax → step s = .next t →
     t.TierFits ∧ t.account.spent ≤ Config.chargeMax) ∧
  (∀ s t : State, s.ClassesFit → s.HoldersFit → s.WaitQueueFits → s.ShedComplete → step s = .next t → t.ShedComplete)

/-- R133 to R136: every step keeps the tokens of each domain within its token cap, and its countdown stopped at the cap. -/
def Obligations.TokensStayWithinTheirCap : Prop := ∀ s t : State, s.TokensFit → step s = .next t → t.TokensFit

/-- R142, R143, R144, R149, R150, R154: every step keeps the buffers as many as the mode says, at most one of them recording,
at the write pointer and only in PARK, the one at the write pointer not FREE in PARK, and every CLOSED buffer with a port
pending. It keeps each delivered set within its forward set, each replay in flight on a CLOSED buffer that has the port
pending, and each replay attempt on a stored frame that is meant for its port. -/
def Obligations.BuffersAndReplaysStayTogether : Prop :=
  (∀ s t : State, s.StoreFits → s.RecordingFits → s.ClosedPending → step s = .next t →
     t.StoreFits ∧ t.RecordingFits ∧ t.ClosedPending) ∧
  (∀ s t : State, s.StoreFits → s.RecordingFits → s.ClosedPending → s.DeliveredFits → s.ReplaysFit →
     step s = .next t → t.DeliveredFits ∧ t.ReplaysFit)

/-- R20, R22, R44, R45, R48, R73, R75, R101, R102, R120, R142: the state after reset meets every property that the steps
keep. -/
def Obligations.EveryInvariantHoldsAtReset : Prop :=
  State.reset.EnableFollows ∧ State.reset.AttachmentsFit ∧ State.reset.PortsFollow ∧ State.reset.BlockingFits ∧
    State.reset.QueuesFit ∧ State.reset.CountersFit ∧ State.reset.ProtectedRowsAgree ∧ State.reset.LatchFits ∧
    State.reset.ClassesFit ∧ State.reset.HoldersFit ∧ State.reset.WaitQueueFits ∧ State.reset.SlotsFit ∧
    State.reset.TierFits ∧ State.reset.account.spent ≤ Config.chargeMax ∧ State.reset.ShedComplete ∧
    State.reset.TokensFit ∧ State.reset.StoreFits ∧ State.reset.RecordingFits ∧ State.reset.ClosedPending ∧
    State.reset.DeliveredFits ∧ State.reset.ReplaysFit ∧ State.reset.NoticesFit ∧ State.reset.ContributionsFit

/-! ### Requests in general -/

/-- R163, R175: the command that a management request stands for is read back from its frame, with every tag and every
argument byte. -/
def Obligations.RequestsReadBackFromTheirFrames : Prop :=
  ∀ (i : Instr) (bytes : List Byte), i.wellFormed = true → requestBytes i = some bytes → decodeRequest bytes = i

/-- R3, R162: a classical data frame that B takes at the request identifier, with any length code that stands for its
bytes, has the effect of the request it stands for. -/
def Obligations.ARequestFrameIsItsRequest : Prop :=
  ∀ (i : Instr) (bytes : List Byte) (code : BitVec 4) (s : State), i.wellFormed = true →
    requestBytes i = some bytes → (BusFrame.data s.requestId code bytes).wellFormed = true →
    exec (.frameTaken Port.B (.data s.requestId code bytes)) s = exec i s

/-- R4, R118, R172: a request frame that B takes while it is LISTEN is only counted, ends BLOCKED and is stored as a
record; one that it takes while a reset is pending is only counted and ends BLOCKED. Neither is executed nor answered. -/
def Obligations.RequestsAreNotExecutedInListenOrResetPending : Prop :=
  ∀ (i : Instr) (bytes : List Byte) (s : State), i.wellFormed = true → requestBytes i = some bytes →
    ((s.port Port.B).active = false →
      Completes (exec i s) fun t =>
        t = onPort s Port.B (stored (heardUnit (s.port Port.B)) (frameRecord s Port.B s.requestId bytes))) ∧
    ((s.port Port.B).active = true → s.management.resetPending = true →
      Completes (exec i s) fun t => t = onPort s Port.B (heardUnit (s.port Port.B)))

/-- R163: a request with fewer argument bytes than it needs is answered LENGTH, a frame without a tag LENGTH with tag 0, and
an unknown code UNKNOWN; none does anything else, but for clearing the reset-prepared flag. A request that is executed with
more bytes than it uses has the effect of the request without them. THE MODEL'S CHOICE (assumption log 27): a frame without a
tag clears the reset-prepared flag also where its code is that of Reset Prepare. -/
def Obligations.RequestsAreCheckedForTheirLength : Prop :=
  (∀ (i : Instr) (code tag : Byte) (args : List Byte) (needed : Nat) (s : State),
     request i = some (code, tag, args, needed) → Executes s → args.length < needed →
     Completes (exec i s) fun t => t = answered (taken s) [code, tag, 10]) ∧
  (∀ (s : State) (code tag : Byte) (rest : List Byte), Executes s →
     (Completes (exec (.unknownRequest []) s) fun t => t = answered (taken s) [0, 0, 10]) ∧
     (Completes (exec (.unknownRequest [code]) s) fun t => t = answered (taken s) [code, 0, 10]) ∧
     ((Instr.unknownRequest (code :: tag :: rest)).wellFormed = true →
       Completes (exec (.unknownRequest (code :: tag :: rest)) s) fun t => t = answered (taken s) [code, tag, 2])) ∧
  (∀ (i : Instr) (code tag : Byte) (args : List Byte) (needed : Nat) (s : State),
     request i = some (code, tag, args, needed) → Executes s →
     exec i s = exec (decodeRequest (code :: tag :: args.take (usedBytes code needed))) s)

/-! ### Requests of the Management Unit -/

/-- R167, R168, R178: Identify answers with the part number 2418, the revision 1, the strap value and the store sizes, and
Read Status with the part it names, or INDEX; neither changes anything else, but for clearing the reset-prepared flag. In
the DOMAINS part the state code of Dn stands in bits 3n to 3n + 2 of the 40-bit value. -/
def Obligations.IdentifyAndReadStatusReportThePart : Prop :=
  (∀ (s : State) (tag : Byte) (args : List Byte), Executes s →
     Completes (exec (.identify tag args) s) fun t =>
       t = answered (taken s) [0x01, tag, 0, 0x97, 0x21, 0x60 + s.management.strap.setWidth 8, 0xFB, 0x7F]) ∧
  (∀ (s : State) (tag b : Byte) (rest : List Byte), Executes s →
     Completes (exec (.readStatus tag (b :: rest)) s) fun t =>
       match b.toNat with
       | 0 => t = answered (taken s) ([0x02, tag, 0, modeCode s.mode, tierCode s.account.tier] ++
           two s.management.epoch.toNat)
       | 1 => t = answered (taken s) [0x02, tag, 0,
           BitVec.ofNat 8 ((if s.engine.latch then 1 else 0) + if s.engine.commitPending then 2 else 0),
           BitVec.ofNat 8 s.engine.boundary]
       | 2 => t = answered (taken s) [0x02, tag, 0, BitVec.ofNat 8 s.causes.records.length,
           BitVec.ofNat 8 s.causes.overflow]
       | 3 => t = answered (taken s) ([0x02, tag, 0] ++ two (s.management.clock.toNat / 65536) ++
           two (s.management.clock.toNat % 65536))
       | 4 => ∃ b3 b4 b5 b6 b7 : Byte, t = answered (taken s) [0x02, tag, 0, b3, b4, b5, b6, b7] ∧
           ∀ d : Domain, (b3 ++ b4 ++ b5 ++ b6 ++ b7).toNat / 8 ^ d.val % 8 = domainStateCode (s.dom d).state
       | _ => t = answered (taken s) [0x02, tag, 3])

/-- R169, R170, R178: Set Clock writes the value it carries to the park clock and answers with it; the moment of the next park
second stays. Inject Frame is refused INDEX, VALUE, LENGTH and BUSY in this order, and otherwise appends the record it
describes to the injection queue and answers with the number of records held. Neither changes anything else. -/
def Obligations.SetClockAndInjectFrame : Prop :=
  (∀ (s : State) (tag b2 b3 b4 b5 : Byte) (rest : List Byte), Executes s →
     Completes (exec (.setClock tag (b2 :: b3 :: b4 :: b5 :: rest)) s) fun t =>
       t = answered
         { taken s with management := { (taken s).management with clock := b2 ++ b3 ++ b4 ++ b5 } }
         [0x03, tag, 0, b2, b3, b4, b5]) ∧
  (∀ (s : State) (tag b2 b3 b4 : Byte) (data : List Byte), Executes s →
     (7 ≤ b2.toNat →
       Completes (exec (.injectFrame tag (b2 :: b3 :: b4 :: data)) s) fun t => t = answered (taken s) [0x38, tag, 3]) ∧
     (∀ p : Port, p.val = b2.toNat →
       Completes (exec (.injectFrame tag (b2 :: b3 :: b4 :: data)) s) fun t =>
         let n := b3.toNat / 16
         let i := 256 * (b3.toNat % 16) + b4.toNat
         if 0x7FF < i ∨ 3 < n then t = answered (taken s) [0x38, tag, 4]
         else if data.length < n then t = answered (taken s) [0x38, tag, 10]
         else if 4 ≤ s.management.injection.length then t = answered (taken s) [0x38, tag, 7]
         else
           t = answered
             { taken s with
               management := { (taken s).management with
                 injection := s.management.injection ++
                   [{ frameRecord s p (BitVec.ofNat 11 i) (data.take n) with injected := true }] } }
             [0x38, tag, 0, BitVec.ofNat 8 (s.management.injection.length + 1)]))

/-- R171, R172, R173: Reset Prepare sets the reset-prepared flag, also when it is set already. A Reset with the flag clear is
refused SEQUENCE and changes nothing. With it set, the flag is cleared, the reset is pending, its deadline of 250
milliseconds runs and its response waits in B's forward queue; a response that is dropped there brings about the
management reset at once. THE MODEL'S CHOICE (assumption log 20) is that this reset keeps the time base and the waiting
commands. -/
def Obligations.ResetNeedsThePreparedFlag : Prop :=
  (∀ (s : State) (tag : Byte) (args : List Byte), Executes s →
     Completes (exec (.resetPrepare tag args) s) fun t =>
       t = answered { taken s with management := { s.management with prepared := true } } [0x3E, tag, 0]) ∧
  (∀ (s : State) (tag : Byte) (args : List Byte), Executes s →
     Completes (exec (.reset tag args) s) fun t =>
       if s.management.prepared = false then t = answered (taken s) [0x3F, tag, 9]
       else if (s.port Port.B).frameEntries < 24 then
         t = { onPort s Port.B
                 { heardUnit (s.port Port.B) with
                   fwd := (s.port Port.B).fwd ++ [.frame s.responseId [0x3F, tag, 0] true] } with
               management := { s.management with
                 prepared := false, resetPending := true, resetDeadline := some 250 } }
       else t = afterManagementReset s)

/-- R101, R161, R172, R173: a power-on reset sets the strap value from the pins and every block to its value after reset, with
the park clock and the park epoch at 0. The reset deadline, while a reset is pending, brings about the management reset, which
keeps the strap value, the park clock, the moment of the park second and the park epoch; with no reset pending it finds
nothing to do. No other command changes the strap value, which gives the request identifier 0x700 + 4 × s and the response and
cause identifiers after it. THE MODEL'S CHOICE is that the time base is 0 after a power-on reset (assumption log 1), that a
management reset keeps it, and that either reset keeps the waiting commands (assumption log 20). THE MODEL'S CHOICE too
(assumption log 5) is that the deadline expires at its command, whatever count it has left. -/
def Obligations.ResetsSetEveryBlock : Prop :=
  (∀ (s : State) (strap : BitVec 3),
     Completes (exec (.powerOnReset strap) s) fun t =>
       t = { State.reset with
         management := { State.reset.management with strap := strap }
         pending := s.pending }) ∧
  (∀ s : State,
     Completes (exec .resetDeadlineExpiry s) fun t =>
       if s.management.resetPending = true ∧ s.management.resetDeadline.isSome = true then t = afterManagementReset s
       else t = s) ∧
  (∀ (i : Instr) (s t : State), exec i s = .next t → (∀ strap, i ≠ .powerOnReset strap) →
     t.management.strap = s.management.strap) ∧
  (∀ s : State, s.requestId.toNat = 0x700 + 4 * s.management.strap.toNat ∧
     s.responseId.toNat = 0x701 + 4 * s.management.strap.toNat ∧
     s.causeId.toNat = 0x702 + 4 * s.management.strap.toNat)

/-! ### Park mode -/

namespace Sys2Proof.Claims

/-- A domain record at Park Enter (R99). -/
def parked (r : DomainRec) : DomainRec :=
  match r.state with
  | .asleep => r
  | .fault => r
  | .awake =>
    { r with wakeClass := some 3, idleTimer := .running r.params.idleTimeout, minAwakeTimer := none }
  | .queued => { r with wakeClass := some 3 }
  | .powering => { r with wakeClass := some 3 }
  | .winding => { r with wakeClass := some 3 }

/-- The state to which a shedding takes a domain (R97). -/
def shedState (st : DomainState) : DomainState :=
  match st with
  | .awake => .winding
  | .queued => .asleep
  | .powering => .asleep
  | st => st

/-- The domains of a test, in the order D0 to D11. -/
def domainsWhere (f : Domain → Bool) : List Domain := (List.finRange 12).filter f

/-- The Cause Queue after one record for each domain of a list: appended while it holds fewer than 32, and otherwise
counted as lost (R139). -/
def recorded (q : CauseQueue) (rs : List CauseRecord) : CauseQueue :=
  rs.foldl (fun q r =>
    if q.records.length < 32 then { q with records := q.records ++ [r] }
    else { q with overflow := if q.overflow < 255 then q.overflow + 1 else q.overflow }) q

end Sys2Proof.Claims

/-- R99, R112 to R114, R133, R144, R159: a Park Enter in RUN, with a budget of 1 mAh or more and the thresholds in range,
makes the mode PARK, counts the epoch, gives every standing domain class 3, empties the accumulator, fills the tokens,
sets the tier NORMAL and opens the buffer at the write pointer if it is FREE. The Rule Table, the contribution lists, the
lines, the timers, the holders, the Cause Queue and the ports S0 to S5 are as they were. -/
def Obligations.ParkEnterSetsThePartUpForThePark : Prop :=
  ∀ (s : State) (tag : Byte) (args : List Byte), Executes s → s.PortsFollow → s.mode = .run → s.account.budget ≠ 0 →
    1 ≤ s.account.upper → s.account.upper ≤ 99 → s.account.lower < s.account.upper →
    Completes (exec (.parkEnter tag args) s) fun t =>
      t.management = { s.management with prepared := false, mode := .park, epoch := s.management.epoch + 1 } ∧
      (∀ d : Domain, t.dom d = parked (s.dom d)) ∧
      t.account = { s.account with
        spent := 0
        tier := .normal
        tokens := Tab.ofFn (fun d => { tokens := (s.dom d).params.tokenCap, countdown := none }) } ∧
      ((s.port Port.B).replay = none → t.capture =
        if (s.buffer s.capture.writePtr).state = .free then
          { s.capture with
            buffers := s.capture.buffers.modify s.capture.writePtr
              (fun b => { b with state := .opened, epoch := s.management.epoch + 1 }) }
        else s.capture) ∧
      (t.port Port.B).active = (s.dom Domain.D0).state.activates ∧
      (t.port Port.B).fwd =
        (offered (s.port Port.B) (.frame s.responseId [0x04, tag, 0] false)).fwd ∧
      (∀ p : Port, p ≠ Port.B → t.port p = s.port p) ∧
      (∀ d : Domain, (s.dom d).state = .queued → ∀ e ∈ t.slots.queue, e.domain = d → e.cls = 3) ∧
      t.slots.holders = s.slots.holders ∧ t.slots.count = s.slots.count ∧ t.engine = s.engine ∧
      t.contributions = s.contributions ∧ t.lineUnit = s.lineUnit ∧ t.timerUnit = s.timerUnit ∧
      t.causes = s.causes ∧ t.pointer = s.pointer ∧ t.timeBase = s.timeBase ∧ t.pending = s.pending

/-- R97, R114, R127, R138: a Park Enter with a budget of 0 sets the tier EXHAUSTED and sheds every domain that is AWAKE,
QUEUED or POWERING, with one BUDGET record of class 3 for each in domain order. -/
def Obligations.ParkEnterWithoutBudgetShedsEveryDomain : Prop :=
  ∀ (s : State) (tag : Byte) (args : List Byte), Executes s → s.mode = .run → s.account.budget = 0 →
    Completes (exec (.parkEnter tag args) s) fun t =>
      t.mode = .park ∧ t.account.tier = .exhausted ∧ t.account.spent = 0 ∧
      (∀ d : Domain, (t.dom d).state = shedState (s.dom d).state ∧
        ((s.dom d).state = .awake → (t.dom d).sleepReason = some .shed)) ∧
      t.causes = recorded s.causes
        ((domainsWhere (fun d => (s.dom d).state.sheddable)).map (fun d =>
          { second := s.management.clock, domain := d, cause := .budget, cls := 3, outcome := .shed,
            buffer := none })) ∧
      ((s.port Port.B).frameEntries < 24 →
        (t.port Port.B).fwd.getLast? = some (.frame s.responseId [0x04, tag, 0] false))

/-- R112, R115 to R117, R138, R148, R159: a Park Exit request in PARK makes the mode RUN, wakes every enabled domain that is ASLEEP
or WINDING at class 0 with one EXIT record each, empties an OPEN buffer and closes a POST one by R148, and leaves the account,
the Rule Table, the contribution lists, the lines and the timers as they were. B is ACTIVE, and the response stands at its
tail unless 24 frame entries were held. Park Enter in PARK and Park Exit in RUN are refused STATE and change nothing else,
but for clearing the reset-prepared flag. -/
def Obligations.ParkExitWakesTheBody : Prop :=
  (∀ (s : State) (tag : Byte) (args : List Byte), Executes s → s.mode = .park →
     Completes (exec (.parkExit tag args) s) fun t =>
       t.management = { s.management with prepared := false, mode := .run } ∧
       (∀ d : Domain,
         ((s.dom d).params.enabled = true → (s.dom d).state = .asleep →
           (t.dom d).state = .queued ∧ (t.dom d).wakeClass = some 0 ∧ (t.dom d).retriesUsed = 0) ∧
         ((s.dom d).params.enabled = true → (s.dom d).state = .winding →
           (t.dom d).state = .awake ∧ (t.dom d).wakeClass = some 0 ∧ (t.dom d).windTimer = none ∧
             (t.dom d).sleepReason = none) ∧
         (((s.dom d).params.enabled = false ∨ ((s.dom d).state ≠ .asleep ∧ (s.dom d).state ≠ .winding)) →
           t.dom d = s.dom d)) ∧
       t.causes = recorded s.causes
         ((domainsWhere (fun d => (s.dom d).params.enabled &&
             ((s.dom d).state == .asleep || (s.dom d).state == .winding))).map (fun d =>
           { second := s.management.clock, domain := d, cause := .exit, cls := 0, outcome := .admitted,
             buffer := none })) ∧
       (s.capture.writePtr < s.capture.buffers.length →
         ((s.buffer s.capture.writePtr).state = .opened → t.buffer s.capture.writePtr = Buffer.free) ∧
         ((s.buffer s.capture.writePtr).state = .post →
           (t.buffer s.capture.writePtr).state = .closed ∨ (t.buffer s.capture.writePtr).state = .done)) ∧
       (s.PortsFollow → t.capture =
         match (s.buffer s.capture.writePtr).state with
         | .opened => { s.capture with buffers := s.capture.buffers.set s.capture.writePtr Buffer.free }
         | .post => afterClosing t.management s.capture (s.buffer s.capture.writePtr)
         | _ => s.capture) ∧
       (t.port Port.B).active = true ∧
       ((s.port Port.B).frameEntries < 24 →
         (t.port Port.B).fwd.getLast? = some (.frame s.responseId [0x05, tag, 0] false)) ∧
       t.account = s.account ∧ t.engine = s.engine ∧
       t.contributions = s.contributions ∧ t.lineUnit = s.lineUnit ∧ t.timerUnit = s.timerUnit ∧
       t.pointer = s.pointer ∧ t.timeBase = s.timeBase ∧ t.pending = s.pending) ∧
  (∀ (s : State) (tag : Byte) (args : List Byte), Executes s →
    (s.mode = .park → Completes (exec (.parkEnter tag args) s) fun t => t = answered (taken s) [0x04, tag, 8]) ∧
    (s.mode = .run → Completes (exec (.parkExit tag args) s) fun t => t = answered (taken s) [0x05, tag, 8]))

/-! ### The Rule Table -/

/-- R38: Table Write Enable sets the latch. Table Write Disable clears it, or is refused BUSY while a commit is pending.
Neither changes anything else, but for clearing the reset-prepared flag. -/
def Obligations.LatchRequestsSetAndClearTheLatch : Prop :=
  ∀ (s : State) (tag : Byte) (args : List Byte), Executes s →
    (Completes (exec (.tableWriteEnable tag args) s) fun t =>
      t = answered { taken s with engine := { s.engine with latch := true } } [0x08, tag, 0]) ∧
    (Completes (exec (.tableWriteDisable tag args) s) fun t =>
      if s.engine.commitPending = true then t = answered (taken s) [0x09, tag, 7]
      else t = answered { taken s with engine := { s.engine with latch := false } } [0x09, tag, 0])

namespace Sys2Proof.Claims

/-- The state with one staging row replaced (R36). -/
def staged (s : State) (i : RowIx) (row : Row) : State :=
  { s with engine := { s.engine with staging := { s.engine.staging with rows := s.engine.staging.rows.set i row } } }

/-- A row of the staging copy. -/
def stagingRow (s : State) (i : RowIx) : Row := s.engine.staging.rows.get i

/-- A staging write of a row is open: no commit is pending, the latch is set, and the row is not protected (R37). -/
abbrev StagingOpen (s : State) (i : RowIx) : Prop :=
  s.engine.commitPending = false ∧ s.engine.latch = true ∧ s.engine.boundary ≤ i.val

/-- The four requests that write a part of a row, with their codes; `b :: rest` are the arguments (R36, R175). -/
def rowWrites (tag : Byte) (args : List Byte) : List (Byte × Instr) :=
  [(0x0A, .stageRowMatch tag args), (0x0B, .stageRowDataTest tag args), (0x0C, .stageRowAction tag args),
   (0x0D, .stageRowWakeSet tag args)]

/-- The modes field of a code 1, 2 or 3 (R176). -/
def modesOf (n : Nat) : RowModes := if n = 1 then .run else if n = 2 then .park else .both

/-- Whether the match part in bytes 3 to 7 is within range: the modes code is not 0, and the identifier and the mask are
not above 0x7FF (R37, R176). -/
def matchInRange (b3 b5 b6 : Byte) : Bool := b3.toNat % 4 != 0 && !b5.getLsbD 7 && !b6.getLsbD 3

end Sys2Proof.Claims

/-- R36, R37, R174, R176: open Stage Row Match, Stage Row Data Test, Stage Row Action and Stage Row Wake Set requests each
write their own part of the staging row, or are refused VALUE and write nothing when a field is out of range. -/
def Obligations.StageRowRequestsWriteTheirParts : Prop :=
  (∀ (s : State) (i : RowIx) (tag b3 b4 b5 b6 b7 : Byte), Executes s → StagingOpen s i →
     Completes (exec (.stageRowMatch tag [BitVec.ofNat 8 i.val, b3, b4, b5, b6, b7]) s) fun t =>
       if matchInRange b3 b5 b6 = true then
         t = answered
           (staged (taken s) i
             { stagingRow s i with
               valid := b3.getLsbD 7
               sources := BitVec.ofNat 9 (b4.toNat + if b3.getLsbD 2 = true then 256 else 0)
               ident := BitVec.ofNat 11 (16 * b5.toNat + b6.toNat / 16)
               mask := BitVec.ofNat 11 (256 * (b6.toNat % 16) + b7.toNat)
               modes := modesOf (b3.toNat % 4) })
           [0x0A, tag, 0]
       else t = answered (taken s) [0x0A, tag, 4]) ∧
  (∀ (s : State) (i : RowIx) (tag b3 b4 b5 : Byte), Executes s → StagingOpen s i →
     (Completes (exec (.stageRowDataTest tag [BitVec.ofNat 8 i.val, b3, b4, b5]) s) fun t =>
       if b3.getLsbD 7 = true then
         (∀ k : Fin 8, b3.toNat % 16 = k.val →
           t = answered (staged (taken s) i
             { stagingRow s i with test := some { index := k, value := b4, mask := b5 } }) [0x0B, tag, 0]) ∧
         (8 ≤ b3.toNat % 16 → t = answered (taken s) [0x0B, tag, 4])
       else t = answered (staged (taken s) i { stagingRow s i with test := none }) [0x0B, tag, 0]) ∧
     (Completes (exec (.stageRowAction tag [BitVec.ofNat 8 i.val, b3, b4, b5]) s) fun t =>
       if 3 < b4.toNat % 8 ∨ (7 < b5.toNat ∧ b5.toNat < 0xFF) then t = answered (taken s) [0x0C, tag, 4]
       else
         ∃ (c : WakeClass) (g : Option GroupIx), c.val = b4.toNat % 8 ∧
           (match g with | none => b5 = 0xFF | some g => b5.toNat = g.val) ∧
           t = answered (staged (taken s) i
             { stagingRow s i with
               forward := b3.setWidth 7
               cls := c
               veto := b4.getLsbD 3
               group := g
               record := b4.getLsbD 4 }) [0x0C, tag, 0]) ∧
     (Completes (exec (.stageRowWakeSet tag [BitVec.ofNat 8 i.val, b3, b4]) s) fun t =>
       t = answered (staged (taken s) i
         { stagingRow s i with wake := BitVec.ofNat 12 (256 * b3.toNat + b4.toNat) }) [0x0D, tag, 0]))

/-- R37: a row write that carries its arguments is refused INDEX above row 127, and otherwise BUSY while a commit is
pending, LATCH while the latch is clear and PROTECTED below the protect boundary, in this order and whatever its fields
hold; a refused write changes nothing else, but for clearing the reset-prepared flag. -/
def Obligations.RowWritesAreRefusedInOrder : Prop :=
  ∀ (s : State) (tag b : Byte) (rest : List Byte) (code : Byte) (w : Instr), Executes s →
    5 ≤ rest.length → (code, w) ∈ rowWrites tag (b :: rest) →
    (128 ≤ b.toNat → Completes (exec w s) fun t => t = answered (taken s) [code, tag, 3]) ∧
    (b.toNat < 128 → s.engine.commitPending = true →
      Completes (exec w s) fun t => t = answered (taken s) [code, tag, 7]) ∧
    (b.toNat < 128 → s.engine.commitPending = false → s.engine.latch = false →
      Completes (exec w s) fun t => t = answered (taken s) [code, tag, 5]) ∧
    (b.toNat < 128 → s.engine.commitPending = false → s.engine.latch = true → b.toNat < s.engine.boundary →
      Completes (exec w s) fun t => t = answered (taken s) [code, tag, 6])

/-- R37, R46, R176: Stage Group is refused INDEX, BUSY, LATCH and VALUE in this order; otherwise it replaces the whole
definition in the staging copy, with the threshold and the window brought into range, and is answered CLAMPED when either
was out of range and OK otherwise. -/
def Obligations.StageGroupWritesTheDefinition : Prop :=
  ∀ (s : State) (tag b2 b3 b4 b5 b6 b7 : Byte), Executes s →
    (8 ≤ b2.toNat →
      Completes (exec (.stageGroup tag [b2, b3, b4, b5, b6, b7]) s) fun t => t = answered (taken s) [0x0E, tag, 3]) ∧
    (∀ g : GroupIx, g.val = b2.toNat →
      Completes (exec (.stageGroup tag [b2, b3, b4, b5, b6, b7]) s) fun t =>
        if s.engine.commitPending = true then t = answered (taken s) [0x0E, tag, 7]
        else if s.engine.latch = false then t = answered (taken s) [0x0E, tag, 5]
        else
          let k := b3.toNat % 16
          let w := 256 * b4.toNat + b5.toNat
          (3 < b3.toNat / 16 % 8 → t = answered (taken s) [0x0E, tag, 4]) ∧
          (∀ c : WakeClass, c.val = b3.toNat / 16 % 8 →
            t = answered
              { taken s with
                engine := { s.engine with
                  staging := { s.engine.staging with
                    groups := s.engine.staging.groups.set g
                      { enabled := b3.getLsbD 7
                        threshold := if k < 1 then 1 else if 8 < k then 8 else k
                        window := if w < 10 then 10 else if 60000 < w then 60000 else w
                        cls := c
                        wake := BitVec.ofNat 12 (256 * b6.toNat + b7.toNat) } } } }
              [0x0E, tag, if 1 ≤ k ∧ k ≤ 8 ∧ 10 ≤ w ∧ w ≤ 60000 then 0 else 1]))

namespace Sys2Proof.Claims

/-- The state after commit completion (R41). -/
def committed (s : State) : State :=
  { s with
    engine := { s.engine with
      active := s.engine.staging
      hits := Tab.replicate 128 0
      latch := false
      commitPending := false }
    contributions := Tab.replicate 8 [] }

end Sys2Proof.Claims

/-- R39, R41: Commit Table is refused BUSY while a commit is pending and LATCH while the latch is clear. Otherwise it is
answered OK and the commit is pending, and commit completion is taken at once when no evaluation is in flight. Commit
completion, taken while a commit is pending and the engine is free, copies the staging copy into the active table, clears
the hit counts, the contribution lists, the latch and the flag, and alters nothing else. -/
def Obligations.CommitCopiesTheStagingCopy : Prop :=
  ∀ (s : State) (tag : Byte) (args : List Byte),
    (Executes s →
      Completes (exec (.commitTable tag args) s) fun t =>
        if s.engine.commitPending = true then t = answered (taken s) [0x0F, tag, 7]
        else if s.engine.latch = false then t = answered (taken s) [0x0F, tag, 5]
        else if s.engine.inFlight = none then t = committed (answered (taken s) [0x0F, tag, 0])
        else t = answered { taken s with engine := { s.engine with commitPending := true } } [0x0F, tag, 0]) ∧
    (Completes (exec .commitCompletion s) fun t =>
      if s.engine.commitPending = true ∧ s.engine.inFlight = none then t = committed s else t = s)

/-- R43, R176: Read Row Part of a row answers with the part as the staging request lays it out, so that staging the answered
bytes writes the fields that the copy holds. Read Hits answers with the hit count of the row it names and of the next row,
0 after row 127, or INDEX above row 127. A Read Row Part of a group answers with its definition; one of a copy that does not
exist is refused VALUE, and one of an index or a part that does not exist INDEX. Neither changes anything else, but for
clearing the reset-prepared flag. -/
def Obligations.ReadRowPartAndReadHitsReportTheTable : Prop :=
  (∀ (s : State) (tag : Byte) (i : RowIx) (staging : Bool), Executes s →
     let row := (if staging = true then s.engine.staging else s.engine.active).rows.get i
     let copy : Byte := if staging = true then 1 else 0
     let ix : Byte := BitVec.ofNat 8 i.val
     (Completes (exec (.readRowPart tag [copy, 0, ix]) s) fun t =>
       ∃ bytes, bytes.length = 5 ∧ t = answered (taken s) (0x10 :: tag :: 0 :: bytes) ∧
         ∃ f, matchPart (ix :: bytes) = some f ∧ ∀ r : Row, f r =
           { r with valid := row.valid, sources := row.sources, ident := row.ident, mask := row.mask,
                    modes := row.modes }) ∧
     (Completes (exec (.readRowPart tag [copy, 1, ix]) s) fun t =>
       ∃ bytes, bytes.length = 3 ∧ t = answered (taken s) (0x10 :: tag :: 0 :: bytes) ∧
         ∃ f, dataTestPart (ix :: bytes) = some f ∧ ∀ r : Row, f r = { r with test := row.test }) ∧
     (Completes (exec (.readRowPart tag [copy, 2, ix]) s) fun t =>
       ∃ bytes, bytes.length = 3 ∧ t = answered (taken s) (0x10 :: tag :: 0 :: bytes) ∧
         ∃ f, actionPart (ix :: bytes) = some f ∧ ∀ r : Row, f r =
           { r with forward := row.forward, cls := row.cls, veto := row.veto, group := row.group,
                    record := row.record }) ∧
     (Completes (exec (.readRowPart tag [copy, 3, ix]) s) fun t =>
       ∃ bytes, bytes.length = 2 ∧ t = answered (taken s) (0x10 :: tag :: 0 :: bytes) ∧
         ∃ f, wakeSetPart (ix :: bytes) = some f ∧ ∀ r : Row, f r = { r with wake := row.wake })) ∧
  (∀ (s : State) (tag : Byte) (g : GroupIx) (staging : Bool), Executes s →
     let group := (if staging = true then s.engine.staging else s.engine.active).groups.get g
     Completes (exec (.readRowPart tag [if staging = true then 1 else 0, 4, BitVec.ofNat 8 g.val]) s) fun t =>
       t = answered (taken s) ([0x10, tag, 0,
         BitVec.ofNat 8 ((if group.enabled = true then 128 else 0) + 16 * group.cls.val + group.threshold)] ++
         two group.window ++ two group.wake.toNat)) ∧
  (∀ (s : State) (tag copy part index : Byte), Executes s →
     let missing := 4 < part.toNat ∨ (part.toNat = 4 ∧ 8 ≤ index.toNat) ∨ (part.toNat < 4 ∧ 128 ≤ index.toNat)
     (copy.toNat ≤ 1 → missing →
       Completes (exec (.readRowPart tag [copy, part, index]) s) fun t => t = answered (taken s) [0x10, tag, 3]) ∧
     (1 < copy.toNat → ¬missing →
       Completes (exec (.readRowPart tag [copy, part, index]) s) fun t => t = answered (taken s) [0x10, tag, 4])) ∧
  (∀ (s : State) (tag b : Byte) (rest : List Byte), Executes s →
     (128 ≤ b.toNat → Completes (exec (.readHits tag (b :: rest)) s) fun t => t = answered (taken s) [0x11, tag, 3]) ∧
     (∀ i : RowIx, i.val = b.toNat →
       Completes (exec (.readHits tag (b :: rest)) s) fun t =>
         (i.val = 127 →
           t = answered (taken s) ([0x11, tag, 0] ++ two (s.engine.hits.get i) ++ two 0)) ∧
         (∀ k : RowIx, k.val = i.val + 1 →
           t = answered (taken s) ([0x11, tag, 0] ++ two (s.engine.hits.get i) ++ two (s.engine.hits.get k)))))

/-- R42: Set Protect Boundary is refused VALUE above 128, BUSY while a commit is pending and VALUE below the present
boundary, in this order. Otherwise the boundary becomes n, and each staging row from the old boundary to n - 1 becomes the
active row; nothing else changes, but for clearing the reset-prepared flag. -/
def Obligations.SetProtectBoundaryRaisesTheBoundary : Prop :=
  ∀ (s : State) (tag b : Byte) (rest : List Byte), Executes s →
    Completes (exec (.setProtectBoundary tag (b :: rest)) s) fun t =>
      if 128 < b.toNat then t = answered (taken s) [0x12, tag, 4]
      else if s.engine.commitPending = true then t = answered (taken s) [0x12, tag, 7]
      else if b.toNat < s.engine.boundary then t = answered (taken s) [0x12, tag, 4]
      else
        t = answered
          { taken s with
            engine := { s.engine with
              boundary := b.toNat
              staging := { s.engine.staging with
                rows := Tab.ofFn (fun i =>
                  if s.engine.boundary ≤ i.val ∧ i.val < b.toNat then s.engine.active.rows.get i
                  else s.engine.staging.rows.get i) } } }
          [0x12, tag, 0, b]

/-! ### Domains -/

namespace Sys2Proof.Claims

/-- An entry of a forward queue is the notice entry of a domain (R10). -/
def noticeFor (d : Domain) (e : FwdEntry) : Bool :=
  match e with
  | .notice d' _ _ => d' == d
  | .frame _ _ _ => false

/-- The notice entry of a domain is in transmission on a port (R12). -/
def sendsNotice (u : PortUnit) (d : Domain) : Bool :=
  u.attempt.any (fun a => a.sending == .queueHead) && u.fwd.head?.any (noticeFor d)

/-- The identifier of a notice that may be offered for a domain: its notice id is present and its port not BLOCKED (R88,
R91). -/
def offerable (s : State) (d : Domain) : Option Ident :=
  if (s.port (s.portOf d)).blocked = true then none else (s.dom d).params.noticeId

/-- The state with a notice appended for a domain at its port, and the notice field that says so (R12, R75). -/
def noticed (s : State) (d : Domain) (i : Ident) (k : NoticeKind) (field : NoticeField) : State :=
  let p := s.portOf d
  onPort (onDomain s d { s.dom d with notice := field }) p { s.port p with fwd := (s.port p).fwd ++ [.notice d i k] }

/-- The state with a sleep notice of the pending sleep reason offered, or skipped with the wind timer started unless it runs
(R88, R89, R91). -/
def sleepOffered (s : State) (d : Domain) : State :=
  match offerable s d, (s.dom d).sleepReason with
  | some i, some reason => noticed s d i (.sleep reason) .sleepQueued
  | _, _ =>
    onDomain s d
      { s.dom d with
        notice := .none
        windTimer := some ((s.dom d).windTimer.getD (s.dom d).params.windTimeout) }

/-- The state with a cancel notice offered, or skipped (R91, R93). -/
def cancelOffered (s : State) (d : Domain) : State :=
  match offerable s d with
  | some i => noticed s d i .cancel .cancelQueued
  | none => onDomain s d { s.dom d with notice := .none }

/-- The table of R91: the state after the report that ends the withdrawal of a sleep notice, or of a cancel notice, which was
transmitted or not. -/
def settledAs (s : State) (d : Domain) (sleep transmitted : Bool) : State :=
  let cleared := onDomain s d { s.dom d with notice := .none }
  match sleep, transmitted, (s.dom d).state with
  | true, false, .winding => sleepOffered s d
  | true, false, _ => cleared
  | true, true, .winding =>
    onDomain s d
      { s.dom d with
        notice := .sleepSent
        windTimer := some ((s.dom d).windTimer.getD (s.dom d).params.windTimeout) }
  | true, true, .awake => cancelOffered s d
  | true, true, _ => cleared
  | false, false, .winding => sleepOffered s d
  | false, false, .awake => cancelOffered s d
  | false, false, _ => cleared
  | false, true, .winding => sleepOffered s d
  | false, true, _ => cleared

/-- The state once the withdrawal of a domain's sleep notice, or of its cancel notice, is asked for: an entry in transmission
waits for the end of its attempt, and any other is taken out and reported unsent (R12, R91). -/
def withdrawn (s : State) (d : Domain) (sleep : Bool) : State :=
  let p := s.portOf d
  let u := s.port p
  if sendsNotice u d = true then
    onPort
      (onDomain s d { s.dom d with notice := if sleep = true then .withdrawingSleep else .withdrawingCancel }) p
      { u with attempt := u.attempt.map (fun a => { a with removal := true }) }
  else settledAs (onPort s p { u with fwd := u.fwd.filter (fun e => !noticeFor d e) }) d sleep false

/-- The state after an AWAKE domain goes to WINDING: its idle timer stops, its min-awake timer has elapsed, its enable line and
its class stay, and the notice field decides by the table of R88. -/
def woundDown (s : State) (d : Domain) (reason : SleepReason) : State :=
  let w := onDomain s d
    { s.dom d with
      state := .winding, enable := true, idleTimer := .stopped, minAwakeTimer := none, sleepReason := some reason }
  let started := onDomain w d
    { w.dom d with windTimer := some ((w.dom d).windTimer.getD (w.dom d).params.windTimeout) }
  match (s.dom d).notice with
  | .cancelQueued => if (offerable s d).isSome = true then withdrawn w d false else started
  | .withdrawingSleep => if (offerable s d).isSome = true then w else started
  | .withdrawingCancel => if (offerable s d).isSome = true then w else started
  | _ => sleepOffered w d

/-- The state after a WINDING domain returns to AWAKE at a class: both of its timers start, and the notice field decides what
the nodes are told (R85, R93). -/
def returned (s : State) (d : Domain) (c : WakeClass) : State :=
  let w := onDomain s d
    { s.dom d with
      state := .awake
      enable := true
      wakeClass := some c
      windTimer := none
      sleepReason := none
      idleTimer := .running (s.dom d).params.idleTimeout
      minAwakeTimer := if (s.dom d).params.minAwake = 0 then none else some (s.dom d).params.minAwake }
  match (s.dom d).notice with
  | .sleepQueued => withdrawn w d true
  | .sleepSent => cancelOffered w d
  | _ => w

/-- A port stays ACTIVE without domain `d`: it is B in RUN, or another domain on it is AWAKE or WINDING (R1, R5). -/
abbrev activeWithout (s : State) (p : Port) (d : Domain) : Prop :=
  (p = Port.B ∧ s.mode = .run) ∨
    ∃ e : Domain, e ≠ d ∧ s.portOf e = p ∧ ((s.dom e).state = .awake ∨ (s.dom e).state = .winding)

/-- A port that has changed from ACTIVE to LISTEN: it is not BLOCKED, its failure count is 0, its queue is held, and an attempt
in progress runs to its end (R8). -/
def listening (u : PortUnit) : PortUnit :=
  { u with
    active := false
    blocked := false
    recovery := none
    failures := 0
    attempt := u.attempt.map (fun a => { a with detached := true }) }

/-- The state after a port has changed from ACTIVE to LISTEN: a replay in flight on it is aborted, at the end of the attempt
that sends one of its frames, and at once otherwise (R8, R152). THE MODEL'S CHOICE (assumption log 14): an attempt that sends an
entry of the forward queue does not hold the abort back. -/
def afterListen (s : State) (p : Port) : State :=
  let u := listening (s.port p)
  match u.replay with
  | none => onPort s p u
  | some j =>
    if u.attempt.any (fun a => a.sending != .queueHead) = true then onPort s p { u with abortDue := true }
    else
      { onPort s p { u with replay := none, abortDue := false } with
        capture := { s.capture with buffers := s.capture.buffers.modify j (fun b => givenUp b p) } }

/-- The state after the report that domain `d` has entered ASLEEP or FAULT: its port leaves each POST or CLOSED buffer that
woke it, has the port pending and no replay in flight there, once no woken domain on the port still stands (R153). -/
def removedPending (s : State) (d : Domain) : State :=
  let p := s.portOf d
  { s with
    capture := { s.capture with
      buffers := s.capture.buffers.mapIdx (fun j b =>
        if (b.state = .post ∨ b.state = .closed) ∧ hasDomain b.woken d = true ∧ hasPort b.pending p = true ∧
            (s.port p).replay ≠ some j ∧
            (∀ e : Domain, hasDomain b.woken e = true → s.portOf e = p →
              (s.dom e).state = .asleep ∨ (s.dom e).state = .fault) then
          givenUp b p
        else b) } }

/-- The state after domain `d` goes to ASLEEP or FAULT with the record `r` (assumption logs 14 and 16): it leaves the wait queue and its slot, its port
listens where no other domain keeps it ACTIVE, its notice entry is withdrawn, and the Capture Store is told (R5, R8, R91, R97,
R98, R107, R153). -/
def offTo (s : State) (d : Domain) (r : DomainRec) : State :=
  let p := s.portOf d
  let off := { onDomain s d r with
    slots := { s.slots with
      holders := s.slots.holders.set d none
      queue := s.slots.queue.filter (fun e => e.domain != d) } }
  let quiet := if (s.port p).active = true ∧ ¬activeWithout s p d then afterListen off p else off
  let told := match r.notice with
    | .none => quiet
    | .sleepQueued => withdrawn quiet d true
    | .sleepSent => onDomain quiet d { r with notice := .none }
    | .cancelQueued => withdrawn quiet d false
    | .withdrawingSleep => quiet
    | .withdrawingCancel => quiet
  removedPending told d

/-- The range of each numeric parameter, by its code (R73, R177). -/
def numericRange (code : Nat) : Option (Nat × Nat) :=
  match code with
  | 3 => some (0, 4095)
  | 4 => some (0, 4095)
  | 5 => some (0, 65535)
  | 6 => some (0, 3600)
  | 7 => some (1, 3600)
  | 8 => some (10, 10000)
  | 9 => some (0, 3)
  | 10 => some (10, 10000)
  | 11 => some (0, 5000)
  | 17 => some (1, 15)
  | 18 => some (1, 1440)
  | _ => none

/-- A number brought into a range. -/
def intoRange (low high n : Nat) : Nat := if n < low then low else if high < n then high else n

/-- Two parameter sets agree in every parameter but one. -/
def agreeBut (code : Nat) (q q' : DomainParams) : Prop :=
  ∀ c, c ≤ 18 → c ≠ code → paramValue q' c = paramValue q c ∧ paramMask q' c = paramMask q c

/-- The arguments of a Set Domain Parameter request: domain, code, value and mask (R177). -/
def paramArgs (d : Domain) (code : Byte) (v m : BitVec 16) : List Byte :=
  [BitVec.ofNat 8 d.val, code] ++ two v.toNat ++ two m.toNat

/-- The token state of a domain after its cap changes (R136). -/
def tokensAfterCap (mode : Mode) (old new refill : Nat) (t : TokenRec) : TokenRec :=
  if new < old then
    if new < t.tokens then { tokens := new, countdown := none }
    else if t.tokens = new then { t with countdown := none }
    else t
  else if old < new ∧ mode = .park ∧ t.countdown = none ∧ t.tokens < new then
    { t with countdown := some (60 * refill) }
  else t

end Sys2Proof.Claims

/-- R74, R136, R177: a numeric parameter is written at the value given, brought into its range, and answered CLAMPED when
that changed it and OK otherwise. No other parameter changes, and of the rest of the part only the domain's tokens, at a
change of the token cap. -/
def Obligations.NumericParametersAreClamped : Prop :=
  ∀ (s : State) (tag code : Byte) (d : Domain) (v m : BitVec 16) (low high : Nat), Executes s →
    numericRange code.toNat = some (low, high) →
    Completes (exec (.setDomainParameter tag (paramArgs d code v m)) s) fun t =>
      ∃ q : DomainParams, paramValue q code.toNat = intoRange low high v.toNat ∧
        agreeBut code.toNat (s.dom d).params q ∧
        t = answered
          { onDomain (taken s) d { s.dom d with params := q } with
            account := { s.account with
              tokens := s.account.tokens.modify d
                (tokensAfterCap s.mode (s.dom d).params.tokenCap q.tokenCap q.refill) } }
          ([0x18, tag, if low ≤ v.toNat ∧ v.toNat ≤ high then 0 else 1, code] ++
            two (intoRange low high v.toNat) ++ [0, 0])

/-- R74, R177: an optional identifier is written as given up to 0x7FF, becomes absent at 0xFFFF, and is otherwise refused
VALUE; the activity parameter also takes a mask up to 0x7FF. The port and the ready mode are written only while the domain
is ASLEEP, and refused STATE otherwise; the port of D0 is B, that of every other domain one of S0 to S5, and any other
code is refused VALUE. A domain above D11 or a code of no parameter is refused INDEX, and an enabled flag other than 0 and 1
VALUE. Nothing else changes, but for the reset-prepared flag. -/
def Obligations.IdentifierPortAndReadyModeParameters : Prop :=
  (∀ (s : State) (tag code : Byte) (d : Domain) (v m : BitVec 16), Executes s →
     12 ≤ code.toNat → code.toNat ≤ 16 →
     Completes (exec (.setDomainParameter tag (paramArgs d code v m)) s) fun t =>
       if v.toNat = 0xFFFF ∨ (v.toNat ≤ 0x7FF ∧ (code.toNat = 16 → m.toNat ≤ 0x7FF)) then
         ∃ q : DomainParams, paramValue q code.toNat = v.toNat ∧
           paramMask q code.toNat = (if code.toNat = 16 ∧ v.toNat ≤ 0x7FF then m.toNat else 0) ∧
           agreeBut code.toNat (s.dom d).params q ∧
           t = answered (onDomain (taken s) d { s.dom d with params := q })
             ([0x18, tag, 0, code] ++ two v.toNat ++
               two (if code.toNat = 16 ∧ v.toNat ≤ 0x7FF then m.toNat else 0))
       else t = answered (taken s) [0x18, tag, 4]) ∧
  (∀ (s : State) (tag : Byte) (d : Domain) (v m : BitVec 16), Executes s →
     (Completes (exec (.setDomainParameter tag (paramArgs d 1 v m)) s) fun t =>
       if (s.dom d).state ≠ .asleep then t = answered (taken s) [0x18, tag, 8]
       else
         ((7 ≤ v.toNat ∨ ¬(d = Domain.D0 ↔ v.toNat = 0)) → t = answered (taken s) [0x18, tag, 4]) ∧
         (∀ p : Port, p.val = v.toNat → (d = Domain.D0 ↔ p = Port.B) →
           t = answered (onDomain (taken s) d { s.dom d with params := { (s.dom d).params with port := p } })
             ([0x18, tag, 0, 1] ++ two p.val ++ [0, 0]))) ∧
     (Completes (exec (.setDomainParameter tag (paramArgs d 2 v m)) s) fun t =>
       if (s.dom d).state ≠ .asleep then t = answered (taken s) [0x18, tag, 8]
       else if v.toNat = 0 then
         t = answered (onDomain (taken s) d
           { s.dom d with params := { (s.dom d).params with readyMode := .timed } }) [0x18, tag, 0, 2, 0, 0, 0, 0]
       else if v.toNat = 1 then
         t = answered (onDomain (taken s) d
           { s.dom d with params := { (s.dom d).params with readyMode := .announce } }) [0x18, tag, 0, 2, 0, 1, 0, 0]
       else t = answered (taken s) [0x18, tag, 4])) ∧
  (∀ (s : State) (tag b code : Byte) (v m : BitVec 16), Executes s →
     (12 ≤ b.toNat ∨ 18 < code.toNat →
       Completes (exec (.setDomainParameter tag ([b, code] ++ two v.toNat ++ two m.toNat)) s) fun t =>
         t = answered (taken s) [0x18, tag, 3]) ∧
     (b.toNat < 12 → 1 < v.toNat →
       Completes (exec (.setDomainParameter tag ([b, 0] ++ two v.toNat ++ two m.toNat)) s) fun t =>
         t = answered (taken s) [0x18, tag, 4]))

/-- R8, R76, R91, R92, R107, R153: a change of the enabled flag from yes to no puts the domain ASLEEP with no wake class, its
enable line released, its timers stopped, its min-awake timer elapsed, no slot and no place in the wait queue. Its notice entry
is withdrawn, its port listens where no other domain keeps it ACTIVE, and the port leaves the buffers that wait for the domain
alone. Its counters and every other domain are as they were, and no cause record is written. A change to yes writes the flag
and no more. THE MODEL'S CHOICE is that the pending sleep reason stays as it stood (assumption log 12), that a replay aborted
while the port sends an entry of its forward queue is aborted at once (assumption log 14), and that the notice field waits for
the end of the attempt that sends the notice entry (assumption log 16). -/
def Obligations.DisablingADomainPutsItAsleep : Prop :=
  ∀ (s : State) (tag : Byte) (d : Domain) (m : BitVec 16), Executes s →
    ((s.dom d).params.enabled = true →
      Completes (exec (.setDomainParameter tag (paramArgs d 0 0 m)) s) fun t =>
        ((s.dom d).state ≠ .asleep → s.AttachmentsFit → s.PortsFollow → s.NoticesFit →
          t = answered
            (offTo (taken s) d
              { s.dom d with
                params := { (s.dom d).params with enabled := false }
                state := .asleep
                wakeClass := none
                enable := false
                readyTimer := none
                idleTimer := .stopped
                windTimer := none
                minAwakeTimer := none
                slotHeld := false })
            [0x18, tag, 0, 0, 0, 0, 0, 0]) ∧
        (t.dom d).params = { (s.dom d).params with enabled := false } ∧ (t.dom d).state = .asleep ∧
        (t.dom d).wakeClass = none ∧ (t.dom d).enable = false ∧ (t.dom d).readyTimer = none ∧
        (t.dom d).idleTimer = .stopped ∧ (t.dom d).windTimer = none ∧ (t.dom d).minAwakeTimer = none ∧
        (t.dom d).slotHeld = false ∧ (t.dom d).forcedSleep = (s.dom d).forcedSleep ∧
        (t.dom d).faults = (s.dom d).faults ∧ (t.dom d).ignored = (s.dom d).ignored ∧
        t.slots.holders.get d = none ∧ (∀ e ∈ t.slots.queue, e.domain ≠ d) ∧
        (∀ e : Domain, e ≠ d → t.dom e = s.dom e) ∧ t.causes = s.causes ∧ t.account = s.account ∧
        t.engine = s.engine ∧ t.contributions = s.contributions ∧ t.lineUnit = s.lineUnit ∧
        t.timerUnit = s.timerUnit ∧
        ((s.port Port.B).frameEntries < 24 →
          (t.port Port.B).fwd.getLast? = some (.frame s.responseId [0x18, tag, 0, 0, 0, 0, 0, 0] false))) ∧
    (Completes (exec (.setDomainParameter tag (paramArgs d 0 1 m)) s) fun t =>
      t = answered (onDomain (taken s) d { s.dom d with params := { (s.dom d).params with enabled := true } })
        [0x18, tag, 0, 0, 0, 1, 0, 0])

/-- R100, R177: Read Domain answers with the part it names as it stands, or INDEX for a domain, a part or an item that does
not exist, and changes nothing else, but for clearing the reset-prepared flag. THE MODEL'S CHOICE (assumption log 6) is that a
timer whose expiry is due and not yet taken shows 1. -/
def Obligations.ReadDomainReportsItsPart : Prop :=
  (∀ (s : State) (tag b part item : Byte), Executes s → 12 ≤ b.toNat ∨ 3 < part.toNat →
    Completes (exec (.readDomain tag [b, part, item]) s) fun t => t = answered (taken s) [0x19, tag, 3]) ∧
  ∀ (s : State) (tag item : Byte) (d : Domain), Executes s →
    let r := s.dom d
    let ix : Byte := BitVec.ofNat 8 d.val
    let stopOrRun := fun (stopped : Byte) (n : Option Nat) =>
      match n with
      | some n => (1 : Byte) :: two n
      | none => [stopped, 0, 0]
    (Completes (exec (.readDomain tag [ix, 0, item]) s) fun t =>
      t = answered (taken s) [0x19, tag, 0, BitVec.ofNat 8 (domainStateCode r.state),
        (match r.wakeClass with | some c => BitVec.ofNat 8 c.val | none => 0xFF),
        BitVec.ofNat 8 (r.retriesUsed + (if r.slotHeld = true then 4 else 0) + 16 * noticeCode r.notice),
        BitVec.ofNat 8 (s.tokens d).tokens]) ∧
    (Completes (exec (.readDomain tag [ix, 1, item]) s) fun t =>
      match item.toNat with
      | 0 => t = answered (taken s) ([0x19, tag, 0] ++ stopOrRun 0 r.readyTimer)
      | 1 => t = answered (taken s) ([0x19, tag, 0] ++ stopOrRun 2 (r.minAwakeTimer.map shown))
      | 2 => t = answered (taken s) ([0x19, tag, 0] ++
          match r.idleTimer with
          | .stopped => [0, 0, 0]
          | .running n => 1 :: two (shown n)
          | .expired => [3, 0, 0])
      | 3 => t = answered (taken s) ([0x19, tag, 0] ++ stopOrRun 0 r.windTimer)
      | _ => t = answered (taken s) [0x19, tag, 3]) ∧
    (Completes (exec (.readDomain tag [ix, 2, item]) s) fun t =>
      match item.toNat with
      | 0 => t = answered (taken s) ([0x19, tag, 0] ++ two r.forcedSleep)
      | 1 => t = answered (taken s) ([0x19, tag, 0] ++ two r.faults)
      | 2 => t = answered (taken s) ([0x19, tag, 0] ++ two r.ignored)
      | _ => t = answered (taken s) [0x19, tag, 3]) ∧
    (Completes (exec (.readDomain tag [ix, 3, item]) s) fun t =>
      if item.toNat ≤ 18 then
        t = answered (taken s) ([0x19, tag, 0, item] ++ two (paramValue r.params item.toNat) ++
          two (paramMask r.params item.toNat))
      else t = answered (taken s) [0x19, tag, 3])

/-! ### Admission and the requests that wake and sleep a domain -/

namespace Sys2Proof.Claims

/-- The outcome of a wake request, by the table of R131 with the costs of R128 and the floors of R130. -/
def outcomeOf (s : State) (d : Domain) (c : WakeClass) : WakeOutcome :=
  let r := s.dom d
  let a := s.account
  let bu := 3600000 * a.budget
  let left := bu - a.spent
  let awake := 1000 * r.params.awakeCurrent * r.params.minAwake
  let cost := if r.state = .winding then awake else 1000 * r.params.rampCharge + awake
  let floor := if c.val = 3 then a.upper else if c.val = 2 then a.lower else 0
  let limit := match a.tier with
    | .normal => 3
    | .reduced => 2
    | .critical => 1
    | .exhausted => 0
  if r.params.enabled = false then .refusedDisabled
  else if r.state = .fault then .refusedFault
  else if r.state = .queued ∨ r.state = .powering ∨ r.state = .awake then .merged
  else if s.management.mode = .run then .admitted
  else if c.val = 0 then .admitted
  else if limit < c.val then .refusedTier
  else if (s.account.tokens.get d).tokens = 0 then .refusedQuota
  else if left < cost ∨ 100 * (left - cost) < floor * bu then .refusedBudget
  else .admitted

/-- A wake request is refused. -/
abbrev refused (o : WakeOutcome) : Prop := o ≠ .admitted ∧ o ≠ .merged

/-- The state with one cause record written at the present park second (R138, R139). -/
def noted (s : State) (d : Domain) (c : Cause) (k : WakeClass) (o : WakeOutcome) (j : Option Nat) : State :=
  { s with
    causes := recorded s.causes
      [{ second := s.management.clock, domain := d, cause := c, cls := k, outcome := o, buffer := j }] }

/-- A buffer after the trigger of a Domain Wake for a domain on a port: OPEN becomes POST with Npost post frames, and POST
merges the trigger (R147). -/
def triggered (b : Buffer) (post : Nat) (d : Domain) (p : Port) : Buffer :=
  if b.state = .opened then
    { b with
      state := .post, postLeft := post, trigger := some .mgmt, woken := onlyDomain d, pending := onlyPort p }
  else { b with woken := b.woken ||| onlyDomain d, pending := b.pending ||| onlyPort p }

/-- The Capture Store after a Domain Wake is admitted in PARK: the OPEN or POST buffer is triggered, and closes at once where
it waits for no post frame (R147, R148). -/
def afterTrigger (s : State) (d : Domain) : CaptureStore :=
  let w := s.capture.writePtr
  let b := triggered (s.buffer w) s.capture.post d (s.portOf d)
  if recordsInto (s.buffer w) then
    if b.postLeft = 0 then afterClosing s.management s.capture b
    else { s.capture with buffers := s.capture.buffers.set w b }
  else s.capture

/-- The account after an admission of a class in PARK: class 1 to 3 takes one of the domain's tokens, and the refill countdown
starts if it was stopped (R131, R135). -/
def afterToken (s : State) (d : Domain) (c : WakeClass) : Account :=
  if c.val = 0 then s.account
  else
    { s.account with
      tokens := s.account.tokens.set d
        { tokens := (s.account.tokens.get d).tokens - 1
          countdown := some ((s.account.tokens.get d).countdown.getD (60 * (s.dom d).params.refill)) } }

/-- The state after a Domain Wake is admitted, before its answer, its record and what its domain does: in PARK its token and its
trigger are taken (R132). -/
def admittedBase (s : State) (d : Domain) (c : WakeClass) : State :=
  match s.mode with
  | .run => taken s
  | .park => { taken s with account := afterToken s d c, capture := afterTrigger s d }

/-- The capture buffer that an admission names: the OPEN or POST buffer at the write pointer in PARK (R132, R147). -/
def namedAt (s : State) : Option Nat :=
  if s.mode = .park ∧ recordsInto (s.buffer s.capture.writePtr) then some s.capture.writePtr else none

/-- The answer of an admitted Domain Wake: outcome ADMITTED and the buffer it names, or 0xFF (R94, R177). -/
def admittedAnswer (s : State) (tag : Byte) : List Byte :=
  [0x1A, tag, 0, 0, match namedAt s with | some w => BitVec.ofNat 8 w | none => 0xFF]

/-- The classes that a domain holds after a merged request (R78, R98). -/
def lowered (held : Option WakeClass) (c : WakeClass) : WakeClass :=
  match held with
  | some h => if c.val < h.val then c else h
  | none => c

end Sys2Proof.Claims

/-- R78, R86, R94, R98, R104, R131, R138: Domain Wake hands one wake request to admission, answers with the outcome that the
checks of R131 give in their order, and writes one MGMT record of that outcome; at a refused outcome it does nothing more.
A domain found QUEUED, POWERING or AWAKE is answered MERGED: it keeps its state and takes the lower of the two classes; the
entry of a QUEUED domain takes its new class and keeps its join order, and the idle timer of an AWAKE domain starts again.
A request of length 3 carries class 0. A domain above D11 is refused INDEX, and a class above 3 VALUE. -/
def Obligations.DomainWakeIsJudgedInOrder : Prop :=
  (∀ (s : State) (tag : Byte) (d : Domain) (c : WakeClass), Executes s → s.RecordingFits → refused (outcomeOf s d c) →
     Completes (exec (.domainWake tag [BitVec.ofNat 8 d.val, BitVec.ofNat 8 c.val]) s) fun t =>
       t = noted (answered (taken s) [0x1A, tag, 0, BitVec.ofNat 8 (wakeOutcomeCode (outcomeOf s d c)), 0xFF])
         d .mgmt c (outcomeOf s d c) none) ∧
  (∀ (s : State) (tag : Byte) (d : Domain) (c : WakeClass), Executes s → s.RecordingFits → s.ClassesFit →
     outcomeOf s d c = .merged →
     Completes (exec (.domainWake tag [BitVec.ofNat 8 d.val, BitVec.ofNat 8 c.val]) s) fun t =>
       t.dom d =
         { s.dom d with
           wakeClass := some (lowered (s.dom d).wakeClass c)
           idleTimer := if (s.dom d).state = .awake then .running (s.dom d).params.idleTimeout
             else (s.dom d).idleTimer } ∧
       (∀ e : Domain, e ≠ d → t.dom e = s.dom e) ∧
       ((s.dom d).state = .queued → ∀ e ∈ t.slots.queue, e.domain = d →
         e.cls = lowered (s.dom d).wakeClass c ∧ ∃ x ∈ s.slots.queue, x.domain = d ∧ x.join = e.join) ∧
       t.slots.queue.filter (fun x => x.domain != d) = s.slots.queue.filter (fun x => x.domain != d) ∧
       t.causes = (noted s d .mgmt c .merged none).causes ∧ t.account = s.account ∧ t.capture = s.capture ∧
       t.ports = (answered (taken s) [0x1A, tag, 0, 1, 0xFF]).ports ∧ t.slots.holders = s.slots.holders ∧
       t.engine = s.engine ∧ t.contributions = s.contributions ∧ t.lineUnit = s.lineUnit ∧ t.timerUnit = s.timerUnit) ∧
  (∀ (s : State) (tag b c : Byte), Executes s →
     exec (.domainWake tag [b]) s = exec (.domainWake tag [b, 0]) s ∧
     (12 ≤ b.toNat → c.toNat ≤ 3 →
       Completes (exec (.domainWake tag [b, c]) s) fun t => t = answered (taken s) [0x1A, tag, 3]) ∧
     (b.toNat < 12 → 3 < c.toNat →
       Completes (exec (.domainWake tag [b, c]) s) fun t => t = answered (taken s) [0x1A, tag, 4]))

/-- R78, R85, R91, R93, R94, R98, R103, R131, R132, R135, R138, R147, R148: a Domain Wake that is ADMITTED for an ASLEEP domain
leaves it QUEUED at the class of the request with retries used 0, behind every entry of the wait queue that is not of a higher
class number. One that is ADMITTED for a WINDING domain returns it to AWAKE at that class with both of its timers started, and
a queued sleep notice is withdrawn, a sent one followed by a cancel notice. In RUN no token, charge or capture buffer is
touched, and the MGMT record names no buffer. In PARK a request of class 1 to 3 takes one of the domain's tokens, with the
refill countdown started if it was stopped, and triggers the OPEN or POST buffer, which the record and the response name; with
no post frames to wait for, that buffer closes. -/
def Obligations.AnAdmittedDomainWakeQueuesTheDomain : Prop :=
  (∀ (s : State) (tag : Byte) (d : Domain) (c : WakeClass), Executes s → s.PortsFollow → s.RecordingFits →
     s.mode = .run → (s.dom d).params.enabled = true → (s.dom d).state = .asleep →
     Completes (exec (.domainWake tag [BitVec.ofNat 8 d.val, BitVec.ofNat 8 c.val]) s) fun t =>
       t = noted
         (answered
           { onDomain (taken s) d
               { s.dom d with state := .queued, enable := false, wakeClass := some c, retriesUsed := 0 } with
             slots := t.slots }
           [0x1A, tag, 0, 0, 0xFF])
         d .mgmt c .admitted none ∧
       t.slots = { s.slots with queue := t.slots.queue, nextJoin := s.slots.nextJoin + 1 } ∧
       ∃ before after : List WaitEntry, s.slots.queue = before ++ after ∧
         t.slots.queue = before ++ { domain := d, cls := c, join := s.slots.nextJoin } :: after ∧
         (s.WaitQueueFits → (∀ e ∈ before, e.cls.val ≤ c.val) ∧ (∀ e ∈ after, c.val < e.cls.val))) ∧
  (∀ (s : State) (tag : Byte) (d : Domain) (c : WakeClass), Executes s → s.PortsFollow → s.RecordingFits →
     (s.dom d).state = .asleep → outcomeOf s d c = .admitted →
     Completes (exec (.domainWake tag [BitVec.ofNat 8 d.val, BitVec.ofNat 8 c.val]) s) fun t =>
       t = noted
         (answered
           { onDomain (admittedBase s d c) d
               { s.dom d with state := .queued, enable := false, wakeClass := some c, retriesUsed := 0 } with
             slots := t.slots }
           (admittedAnswer s tag))
         d .mgmt c .admitted (namedAt s) ∧
       t.slots = { s.slots with queue := t.slots.queue, nextJoin := s.slots.nextJoin + 1 } ∧
       ∃ before after : List WaitEntry, s.slots.queue = before ++ after ∧
         t.slots.queue = before ++ { domain := d, cls := c, join := s.slots.nextJoin } :: after ∧
         (s.WaitQueueFits → (∀ e ∈ before, e.cls.val ≤ c.val) ∧ (∀ e ∈ after, c.val < e.cls.val))) ∧
  (∀ (s : State) (tag : Byte) (d : Domain) (c : WakeClass), Executes s → s.PortsFollow → s.RecordingFits → s.NoticesFit →
     (s.dom d).state = .winding → outcomeOf s d c = .admitted →
     Completes (exec (.domainWake tag [BitVec.ofNat 8 d.val, BitVec.ofNat 8 c.val]) s) fun t =>
       t = noted (answered (returned (admittedBase s d c) d c) (admittedAnswer s tag)) d .mgmt c .admitted (namedAt s))

/-- R8, R88, R91, R95, R96, R107, R153: Domain Sleep leaves an ASLEEP or WINDING domain as it is, answered OK, and refuses a domain in FAULT STATE.
It takes a QUEUED domain out of the wait queue and a POWERING one out of power and its slot, each to ASLEEP with no wake
class, and it sends an AWAKE domain to WINDING with reason MGMT, whatever its min-awake timer holds. Domain Clear Fault
makes a domain in FAULT ASLEEP with no wake class and retries used 0, and keeps its fault counter; it refuses any other
state STATE. At WINDING the notice field decides by the table of R88, and at ASLEEP the Capture Store is told. Either is
refused INDEX above D11. No other domain changes, no token is touched and no cause record is written. THE MODEL'S CHOICE, for a
domain that goes to ASLEEP, is that a sleep reason left standing stays (assumption log 12), that a replay aborted while the port
sends an entry of its forward queue is aborted at once (assumption log 14), and that the notice field waits for the end of the
attempt that sends the notice entry (assumption log 16). -/
def Obligations.DomainSleepAndClearFaultActByTheState : Prop :=
  (∀ (s : State) (tag : Byte) (d : Domain), Executes s →
     Completes (exec (.domainSleep tag [BitVec.ofNat 8 d.val]) s) fun t =>
       (((s.dom d).state = .asleep ∨ (s.dom d).state = .winding) → t = answered (taken s) [0x1B, tag, 0]) ∧
       ((s.dom d).state = .fault → t = answered (taken s) [0x1B, tag, 8]) ∧
       (((s.dom d).state = .queued ∨ (s.dom d).state = .powering) →
         (t.dom d).state = .asleep ∧ (t.dom d).wakeClass = none ∧ (t.dom d).enable = false ∧
         (t.dom d).readyTimer = none ∧ (t.dom d).slotHeld = false ∧ t.slots.holders.get d = none ∧
         (∀ e ∈ t.slots.queue, e.domain ≠ d) ∧
         (s.AttachmentsFit → s.PortsFollow → s.NoticesFit →
           t = answered
             (offTo (taken s) d
               { s.dom d with
                 state := .asleep, enable := false, wakeClass := none, readyTimer := none, slotHeld := false })
             [0x1B, tag, 0])) ∧
       ((s.dom d).state = .awake →
         (s.PortsFollow → s.NoticesFit → t = answered (woundDown (taken s) d .mgmt) [0x1B, tag, 0]) ∧
         (t.dom d).state = .winding ∧ (t.dom d).sleepReason = some .mgmt ∧ (t.dom d).enable = true ∧
         (t.dom d).idleTimer = .stopped ∧ (t.dom d).minAwakeTimer = none ∧
         (t.dom d).wakeClass = (s.dom d).wakeClass ∧ t.slots = s.slots) ∧
       ((s.dom d).state ≠ .fault → (s.port Port.B).frameEntries < 24 →
         (t.port Port.B).fwd.getLast? = some (.frame s.responseId [0x1B, tag, 0] false)) ∧
       (∀ e : Domain, e ≠ d → t.dom e = s.dom e) ∧ t.account = s.account ∧ t.causes = s.causes ∧
       t.engine = s.engine ∧ t.lineUnit = s.lineUnit ∧ t.timerUnit = s.timerUnit) ∧
  (∀ (s : State) (tag : Byte) (d : Domain), Executes s →
     Completes (exec (.domainClearFault tag [BitVec.ofNat 8 d.val]) s) fun t =>
       ((s.dom d).state ≠ .fault → t = answered (taken s) [0x1C, tag, 8]) ∧
       ((s.dom d).state = .fault →
         (t.dom d).state = .asleep ∧ (t.dom d).wakeClass = none ∧ (t.dom d).retriesUsed = 0 ∧
         (t.dom d).enable = false ∧ (t.dom d).faults = (s.dom d).faults ∧
         (s.AttachmentsFit → s.PortsFollow → s.NoticesFit →
           t = answered
             (offTo (taken s) d
               { s.dom d with
                 state := .asleep, enable := false, wakeClass := none, retriesUsed := 0, slotHeld := false })
             [0x1C, tag, 0]) ∧
         ((s.port Port.B).frameEntries < 24 →
           (t.port Port.B).fwd.getLast? = some (.frame s.responseId [0x1C, tag, 0] false)) ∧
         (∀ e : Domain, e ≠ d → t.dom e = s.dom e) ∧ t.account = s.account ∧ t.causes = s.causes ∧
         t.engine = s.engine ∧ t.lineUnit = s.lineUnit ∧ t.timerUnit = s.timerUnit)) ∧
  (∀ (s : State) (tag b : Byte), Executes s → 12 ≤ b.toNat →
     (Completes (exec (.domainSleep tag [b]) s) fun t => t = answered (taken s) [0x1B, tag, 3]) ∧
     (Completes (exec (.domainClearFault tag [b]) s) fun t => t = answered (taken s) [0x1C, tag, 3]))

/-- R108, R177: Set Slots with the query flag writes nothing; otherwise the slot count becomes the count given, brought
into 1 to 4, and the answer is CLAMPED when that changed it. It answers with the count, the holders, the length of the
wait queue and its head, and changes no holder and no entry. -/
def Obligations.SetSlotsWritesTheCountAlone : Prop :=
  ∀ (s : State) (tag b : Byte) (rest : List Byte), Executes s →
    Completes (exec (.setSlots tag (b :: rest)) s) fun t =>
      let n := b.toNat % 128
      let k := if b.getLsbD 7 = true then s.slots.count else intoRange 1 4 n
      let o : Byte := if b.getLsbD 7 = true ∨ (1 ≤ n ∧ n ≤ 4) then 0 else 1
      ∃ holders : BitVec 16,
        (∀ d : Domain, holders.getLsbD d.val = (s.slots.holders.get d).isSome) ∧ holders.toNat < 4096 ∧
        t = answered { taken s with slots := { s.slots with count := k } }
          ([0x1D, tag, o, BitVec.ofNat 8 k] ++ two holders.toNat ++
            [BitVec.ofNat 8 s.slots.queue.length,
             match s.slots.queue.head? with
             | some e => BitVec.ofNat 8 e.domain.val
             | none => 0xFF])

/-! ### The Charge Account and the Cause Queue -/

namespace Sys2Proof.Claims

/-- The tier that R125 gives for a remaining charge, a budget charge and two thresholds. -/
def tierFor (left bu upper lower : Nat) : Tier :=
  if left = 0 then .exhausted
  else if 100 * left < lower * bu then .critical
  else if 100 * left < upper * bu then .reduced
  else .normal

/-- The depth of a tier in the order of R125. -/
def depth (t : Tier) : Nat :=
  match t with
  | .normal => 0
  | .reduced => 1
  | .critical => 2
  | .exhausted => 3

/-- Whether a tier admits a class (R126). -/
def admits (t : Tier) (c : WakeClass) : Prop := c.val + depth t ≤ 3

/-- The domains that a change to tier `t` sheds: AWAKE, QUEUED or POWERING at a class that it does not serve (R127). -/
def shedBy (s : State) (t : Tier) (d : Domain) : Bool :=
  ((s.dom d).state == .awake || (s.dom d).state == .queued || (s.dom d).state == .powering) &&
    match (s.dom d).wakeClass with
    | some c => decide (3 < c.val + depth t)
    | none => false

/-- The BUDGET records of a shedding at tier `t`, in domain order (R127, R138). -/
def shedRecords (s : State) (second : BitVec 32) (t : Tier) : List CauseRecord :=
  (domainsWhere (shedBy s t)).map (fun d =>
    { second := second, domain := d, cause := .budget, cls := ((s.dom d).wakeClass.getD 0), outcome := .shed,
      buffer := none })

end Sys2Proof.Claims

/-- R97, R121, R125, R127, R138, R177: Set Budget writes the budget, the two thresholds brought into range and the base draw,
and is answered CLAMPED when a threshold was changed. In RUN it changes nothing else, but for clearing the reset-prepared
flag. In PARK it sets the tier that the new settings prescribe. A lower tier sheds the domains that it does not serve, each
with a BUDGET record in domain order, an AWAKE domain to WINDING with reason SHED and a QUEUED or POWERING one to ASLEEP;
any other tier sheds none. -/
def Obligations.SetBudgetWritesTheSettingsAndShedsInPark : Prop :=
  (∀ (s : State) (tag : Byte) (budget base : BitVec 16) (b4 b5 : Byte), Executes s → s.mode = .run →
     Completes (exec (.setBudget tag (two budget.toNat ++ [b4, b5] ++ two base.toNat)) s) fun t =>
       let t1 := intoRange 1 99 b4.toNat
       let t2 := if t1 ≤ b5.toNat then t1 - 1 else b5.toNat
       t = answered
         { taken s with
           account := { s.account with
             budget := budget.toNat, upper := t1, lower := t2, baseDraw := base.toNat } }
         ([0x20, tag, if t1 = b4.toNat ∧ t2 = b5.toNat then 0 else 1, BitVec.ofNat 8 t1, BitVec.ofNat 8 t2,
           tierCode s.account.tier] ++ two budget.toNat)) ∧
  (∀ (s : State) (tag : Byte) (budget base : BitVec 16) (b4 b5 : Byte), Executes s → s.mode = .park →
     Completes (exec (.setBudget tag (two budget.toNat ++ [b4, b5] ++ two base.toNat)) s) fun t =>
       let t1 := intoRange 1 99 b4.toNat
       let t2 := if t1 ≤ b5.toNat then t1 - 1 else b5.toNat
       let bu := 3600000 * budget.toNat
       let tier := tierFor (bu - s.account.spent) bu t1 t2
       t.account = { s.account with
         budget := budget.toNat, upper := t1, lower := t2, baseDraw := base.toNat, tier := tier } ∧
       (depth s.account.tier < depth tier →
         (∀ d : Domain, (t.dom d).state =
           if shedBy s tier d = true then shedState (s.dom d).state else (s.dom d).state) ∧
         (∀ d : Domain, shedBy s tier d = true → (s.dom d).state = .awake →
           (t.dom d).sleepReason = some .shed) ∧
         t.causes = recorded s.causes (shedRecords s s.management.clock tier)) ∧
       (depth tier ≤ depth s.account.tier → (∀ d : Domain, t.dom d = s.dom d) ∧ t.causes = s.causes) ∧
       ((s.port Port.B).frameEntries < 24 →
         (t.port Port.B).fwd.getLast? = some (.frame s.responseId
           ([0x20, tag, if t1 = b4.toNat ∧ t2 = b5.toNat then 0 else 1, BitVec.ofNat 8 t1, BitVec.ofNat 8 t2,
             tierCode tier] ++ two budget.toNat) false)))

/-- R122, R137, R177: Read Account answers with the part it names as it stands: the charges rounded down to mAh and mC, the
settings, the draw of one second and the tokens, or INDEX where the part, the page or the domain does not exist; it changes
nothing else, but for clearing the reset-prepared flag. THE MODEL'S CHOICE (assumption log 6) is that a refill countdown whose
expiry is due and not yet taken shows 1. -/
def Obligations.ReadAccountReportsItsPart : Prop :=
  ∀ (s : State) (tag b3 b4 : Byte), Executes s →
    (Completes (exec (.readAccount tag [0, b3, b4]) s) fun t =>
      t = answered (taken s) ([0x21, tag, 0, modeCode s.mode, tierCode s.account.tier] ++
        two ((3600000 * s.account.budget - s.account.spent) / 3600000))) ∧
    (Completes (exec (.readAccount tag [1, b3, b4]) s) fun t =>
      t = answered (taken s) ([0x21, tag, 0] ++ beBytes 5 (s.account.spent / 1000))) ∧
    (Completes (exec (.readAccount tag [2, b3, b4]) s) fun t =>
      t = answered (taken s) ([0x21, tag, 0] ++ two s.account.budget ++
        [BitVec.ofNat 8 s.account.upper, BitVec.ofNat 8 s.account.lower])) ∧
    (Completes (exec (.readAccount tag [3, b3, 0]) s) fun t =>
      t = answered (taken s) ([0x21, tag, 0] ++ two s.account.baseDraw)) ∧
    (Completes (exec (.readAccount tag [3, b3, 1]) s) fun t =>
      t = answered (taken s) ([0x21, tag, 0] ++ beBytes 4
        (s.account.baseDraw + ((List.finRange 12).map (fun d =>
          if (s.dom d).state = .powering ∨ (s.dom d).state = .awake ∨ (s.dom d).state = .winding then
            1000 * (s.dom d).params.awakeCurrent
          else 10 * (s.dom d).params.sleepCurrent)).sum))) ∧
    (∀ d : Domain, d.val = b3.toNat →
      Completes (exec (.readAccount tag [4, b3, b4]) s) fun t =>
        t = answered (taken s) ([0x21, tag, 0, BitVec.ofNat 8 (s.account.tokens.get d).tokens,
          BitVec.ofNat 8 (s.dom d).params.tokenCap] ++ beBytes 3 (((s.account.tokens.get d).countdown.map shown).getD 0))) ∧
    (12 ≤ b3.toNat →
      Completes (exec (.readAccount tag [4, b3, b4]) s) fun t => t = answered (taken s) [0x21, tag, 3]) ∧
    (∀ part : Byte, 4 < part.toNat ∨ (part.toNat = 3 ∧ 1 < b4.toNat) →
      Completes (exec (.readAccount tag [part, b3, b4]) s) fun t => t = answered (taken s) [0x21, tag, 3])

namespace Sys2Proof.Claims

/-- The code of an admission outcome (R177). -/
def outcomeNumber (o : WakeOutcome) : Nat :=
  match o with
  | .admitted => 0
  | .merged => 1
  | .refusedDisabled => 2
  | .refusedFault => 3
  | .refusedTier => 4
  | .refusedQuota => 5
  | .refusedBudget => 6
  | .shed => 7
  | .failed => 8

/-- The code of a cause kind and the cause index (R138, R179). -/
def causeNumbers (c : Cause) : Nat × Nat :=
  match c with
  | .rule row => (0, row.val)
  | .group g => (1, g.val)
  | .mgmt => (2, 0)
  | .exit => (3, 0)
  | .reset => (4, 0)
  | .ready => (5, 0)
  | .budget => (6, 0)

/-- The data bytes of the cause frame of a record (R179). -/
def causeFrame (r : CauseRecord) : List Byte :=
  two (r.second.toNat / 65536) ++ two (r.second.toNat % 65536) ++
    [BitVec.ofNat 8 (r.domain.val + 16 * r.cls.val),
     BitVec.ofNat 8 ((causeNumbers r.cause).1 + 8 * outcomeNumber r.outcome),
     BitVec.ofNat 8 (causeNumbers r.cause).2,
     match r.buffer with | some j => BitVec.ofNat 8 j | none => 0xFF]

end Sys2Proof.Claims

/-- R140, R161, R179: Take Causes for 0 or for more than 32 records is refused VALUE. Otherwise it takes the m oldest records, m
the least of the number asked for, the records held and the free places of B's forward queue less the response, answers
with m, the records left and the overflow count, which becomes 0, and appends one cause frame for each record behind the
response, in the layout of R179 at the cause identifier. With no place free, nothing is taken and the response is dropped. -/
def Obligations.TakeCausesSendsTheOldestRecords : Prop :=
  ∀ (s : State) (tag n : Byte) (rest : List Byte), Executes s →
    Completes (exec (.takeCauses tag (n :: rest)) s) fun t =>
      let free := 24 - (s.port Port.B).frameEntries
      let m := min n.toNat (min s.causes.records.length (free - 1))
      if n.toNat = 0 ∨ 32 < n.toNat then t = answered (taken s) [0x22, tag, 4]
      else if 24 ≤ (s.port Port.B).frameEntries then
        t.causes = s.causes ∧ (t.port Port.B).fwd = (s.port Port.B).fwd ∧
        (t.port Port.B).forwardDrop = counted (s.port Port.B).forwardDrop
      else
        t = { onPort s Port.B
                { heardUnit (s.port Port.B) with
                  fwd := (s.port Port.B).fwd ++
                    .frame s.responseId [0x22, tag, 0, BitVec.ofNat 8 m,
                      BitVec.ofNat 8 (s.causes.records.length - m), BitVec.ofNat 8 s.causes.overflow] false ::
                    (s.causes.records.take m).map (fun r =>
                      .frame (BitVec.ofNat 11 (0x702 + 4 * s.management.strap.toNat)) (causeFrame r) false) } with
              management := { s.management with prepared := false }
              causes := { records := s.causes.records.drop m, overflow := 0 } }

/-! ### The Capture Store -/

namespace Sys2Proof.Claims

/-- The frames of a buffer, oldest first (R146). -/
def framesOf (b : Buffer) : List StoredFrame :=
  match b.wrapped, b.stop with
  | true, some k => b.slots.drop (k + 1) ++ b.slots.take (k + 1)
  | _, _ => b.slots

/-- The frames of buffer `j` that are due on port `p` and are not being sent there (R149, R155). -/
def waitingOn (s : State) (j : Nat) (p : Port) : Nat :=
  (List.range (s.buffer j).slots.length).countP (fun k =>
    match (s.buffer j).slots[k]? with
    | some f => hasPort f.forward p && !hasPort f.delivered p &&
        (s.port p).attempt.map Attempt.sending != some (.replay j k)
    | none => false)

/-- The frames that a release of buffer `j` adds to the skipped count: those of its pending ports (R155). -/
def released (s : State) (j : Nat) : Nat :=
  ((List.finRange 7).map (fun p => if hasPort (s.buffer j).pending p = true then waitingOn s j p else 0)).sum

/-- The state after the release of buffer `j` (R155). -/
def afterRelease (s : State) (j : Nat) : State :=
  { s with
    capture := { s.capture with
      buffers := s.capture.buffers.modify j (fun b =>
        { b with state := .done, pending := 0, skipped := min 65535 (b.skipped + released s j) }) }
    ports := s.ports.map (fun u => if u.replay = some j then { u with replay := none, abortDue := false } else u) }

/-- An attempt sends a frame of buffer `j`. -/
def sendsFrom (a : Attempt) (j : Nat) : Bool :=
  match a.sending with
  | .replay i _ => i == j
  | .queueHead => false

/-- No attempt in progress sends a frame of buffer `j` (R154). -/
abbrev NotSending (s : State) (j : Nat) : Prop := ∀ p : Port, ∀ a ∈ (s.port p).attempt, sendsFrom a j = false

end Sys2Proof.Claims

/-- R144, R154, R155, R156: Set Capture Mode is refused VALUE above mode 3 and BUSY while a buffer is not FREE, and otherwise
writes the mode and the post count, brought below the new size, with the pointers 0 and every buffer FREE. Release Capture
acts on a CLOSED buffer at the read pointer alone: it becomes DONE with no port pending, the frames it still owed count as
skipped and its replays end; any other is refused STATE. A freeing needs a DONE buffer at the read pointer that no attempt
sends from: it becomes FREE, the read pointer advances, and in PARK a FREE buffer at the write pointer opens. THE MODEL'S CHOICE
(assumption log 29) is that the response to a release reports all the frames it counts, also where the skipped count stops at
65535, and (assumption log 30) that a Set Capture Mode which repeats the mode in force sets the pointers to 0 as well. -/
def Obligations.CaptureBuffersAreSetReleasedAndFreed : Prop :=
  (∀ (s : State) (tag b2 b3 : Byte) (rest : List Byte), Executes s →
    Completes (exec (.setCaptureMode tag (b2 :: b3 :: rest)) s) fun t =>
      (3 < b2.toNat → t = answered (taken s) [0x28, tag, 4]) ∧
      ∀ mode : Fin 4, mode.val = b2.toNat →
        ((∃ b ∈ s.capture.buffers, b.state ≠ .free) → t = answered (taken s) [0x28, tag, 7]) ∧
        ((∀ b ∈ s.capture.buffers, b.state = .free) →
          let size := 16 * 2 ^ mode.val
          let post := if b3.toNat < size then b3.toNat else size - 1
          t = answered
            { taken s with
              capture := { s.capture with
                mode := mode
                post := post
                writePtr := 0
                readPtr := 0
                buffers := List.replicate (32 / 2 ^ mode.val) Buffer.free } }
            [0x28, tag, if b3.toNat < size then 0 else 1, b2, BitVec.ofNat 8 post])) ∧
  (∀ (s : State) (tag : Byte) (args : List Byte), Executes s →
    Completes (exec (.releaseCapture tag args) s) fun t =>
      let j := s.capture.readPtr
      if (s.buffer j).state = .closed then
        t = answered (afterRelease (taken s) j) ([0x2A, tag, 0, BitVec.ofNat 8 j] ++ two (released s j))
      else t = answered (taken s) [0x2A, tag, 8]) ∧
  (∀ s : State,
    Completes (exec .bufferFree s) fun t =>
      let j := s.capture.readPtr
      let w := s.capture.writePtr
      let freed := s.capture.buffers.set j Buffer.free
      if (s.buffer j).state = .done ∧ NotSending s j then
        t = { s with
          capture := { s.capture with
            readPtr := (j + 1) % (32 / 2 ^ s.capture.mode.val)
            buffers :=
              if s.mode = .park ∧ (freed.getD w Buffer.free).state = .free then
                freed.modify w (fun b => { b with state := .opened, epoch := s.management.epoch })
              else freed } }
      else t = s)

/-- R146, R157, R158, R174, R178: Read Capture Descriptor answers with the page of the part it names, as it stands, and Read
Capture Frame with the page of the stored frame at a position, oldest first. Either is refused INDEX where the part, the
page, the buffer or the frame does not exist, and neither changes anything else, but for clearing the reset-prepared
flag. -/
def Obligations.CaptureReadsReportTheStore : Prop :=
  (∀ (s : State) (tag part jx page : Byte) (rest : List Byte), Executes s →
    Completes (exec (.readCaptureDescriptor tag (part :: jx :: page :: rest)) s) fun t =>
      let c := s.capture
      let b := s.buffer jx.toNat
      let known := jx.toNat < 32 / 2 ^ c.mode.val
      let index := t = answered (taken s) [0x29, tag, 3]
      match part.toNat, page.toNat with
      | 0, 0 => t = answered (taken s) [0x29, tag, 0, BitVec.ofNat 8 c.mode.val, BitVec.ofNat 8 c.post,
          BitVec.ofNat 8 c.writePtr, BitVec.ofNat 8 c.readPtr,
          BitVec.ofNat 8 (c.buffers.countP (fun b => b.state != .free))]
      | 0, 1 => t = answered (taken s) ([0x29, tag, 0] ++ two c.loss)
      | 1, 0 =>
        if known then
          t = answered (taken s) [0x29, tag, 0, bufferStateCode b.state, BitVec.ofNat 8 b.slots.length,
            (match b.stop with | some k => BitVec.ofNat 8 k | none => 0xFF), (if b.wrapped = true then 1 else 0),
            BitVec.ofNat 8 b.postLeft]
        else index
      | 1, 1 => if known then t = answered (taken s) ([0x29, tag, 0] ++ two b.epoch.toNat) else index
      | 2, 0 =>
        if known then
          ∃ replaying : Byte,
            (∀ p : Port, replaying.getLsbD p.val = ((s.port p).replay == some jx.toNat)) ∧ replaying.toNat < 128 ∧
            t = answered (taken s) ([0x29, tag, 0, b.pending.setWidth 8] ++ two b.woken.toNat ++ [replaying])
        else index
      | 3, 0 =>
        if known then
          match b.trigger with
          | some (.rule row) => t = answered (taken s) ([0x29, tag, 0, 1, BitVec.ofNat 8 row.val] ++ two b.skipped)
          | some (.group g) => t = answered (taken s) ([0x29, tag, 0, 2, BitVec.ofNat 8 g.val] ++ two b.skipped)
          | some .mgmt => t = answered (taken s) ([0x29, tag, 0, 3, 0] ++ two b.skipped)
          | none => ∃ open8 : Byte, t = answered (taken s) ([0x29, tag, 0, 0, open8] ++ two b.skipped)
        else index
      | 3, 1 =>
        if known then
          t = answered (taken s) ([0x29, tag, 0] ++ two (b.closeSecond.toNat / 65536) ++
            two (b.closeSecond.toNat % 65536))
        else index
      | _, _ => index) ∧
  (∀ (s : State) (tag jx pos page : Byte) (rest : List Byte), Executes s →
    Completes (exec (.readCaptureFrame tag (jx :: pos :: page :: rest)) s) fun t =>
      match (if jx.toNat < 32 / 2 ^ s.capture.mode.val then (framesOf (s.buffer jx.toNat))[pos.toNat]? else none) with
      | none => t = answered (taken s) [0x2B, tag, 3]
      | some f =>
        let r := f.record
        match page.toNat with
        | 0 =>
          t = answered (taken s)
            ([0x2B, tag, 0, BitVec.ofNat 8 (sourceCode r.source + if r.overrunMark = true then 16 else 0)] ++
              two (4096 * r.data.length + r.ident.toNat) ++ [f.forward.setWidth 8, f.delivered.setWidth 8])
        | 1 => t = answered (taken s) ([0x2B, tag, 0] ++ [0, 1, 2, 3, 4].map (fun i => r.data.getD i 0))
        | 2 => t = answered (taken s) ([0x2B, tag, 0] ++ [5, 6, 7].map (fun i => r.data.getD i 0))
        | 3 =>
          t = answered (taken s) ([0x2B, tag, 0] ++ two (r.arrival.toNat / 65536) ++ two (r.arrival.toNat % 65536))
        | _ => t = answered (taken s) [0x2B, tag, 3])

/-! ### Lines, timers and ports: their requests -/

namespace Sys2Proof.Claims

/-- The remaining count of a timer as it is reported and held at a stop (R64, R68; assumption log 6). -/
def heldCount (r : TimerRec) : Nat := if r.running = true then shown r.remaining else r.remaining

/-- The report of a timer record (R64, R178). -/
def timerReport (r : TimerRec) : List Byte :=
  BitVec.ofNat 8 ((match r.mode with | .oneShot => 0 | .periodic => 1) + (if r.running = true then 2 else 0) +
    if r.thinning = true then 4 else 0) :: two (heldCount r) ++ [r.expiries, BitVec.ofNat 8 r.lost]

/-- The state with one timer record replaced. -/
def onTimer (s : State) (k : TimerIx) (r : TimerRec) : State :=
  { s with timerUnit := { s.timerUnit with timers := s.timerUnit.timers.set k r } }

/-- A timer record after an expiry: the count wraps from 255 to 0, ONE_SHOT stops and PERIODIC reloads (R69). -/
def expiredRec (r : TimerRec) : TimerRec :=
  { r with
    expiries := r.expiries + 1
    running := r.mode == .periodic
    remaining := if r.mode = .periodic then r.preload else 0 }

/-- An expiry that brings a timer's count to `n` is thinned (R70). -/
def thins (s : State) (r : TimerRec) (n : Nat) : Bool :=
  r.mode == .periodic && r.thinning && s.management.mode == .park &&
    match s.account.tier with
    | .normal => false
    | .reduced => n % 2 != 0
    | .critical => n % 4 != 0
    | .exhausted => true

/-- The record of a timer event (R2, R71). -/
def timerEventRecord (s : State) (k : TimerIx) (n : Byte) : FrameRecord where
  source := .timer
  ident := BitVec.ofNat 11 k.val
  data := [n]
  arrival := s.management.clock
  overrunMark := false
  injected := false

/-- The expiry of a timer is due: it runs, and a park second has brought its count to 0 (R65). -/
abbrev timerDue (s : State) (k : TimerIx) : Prop :=
  (s.timerUnit.timers.get k).running = true ∧ (s.timerUnit.timers.get k).remaining = 0

/-- The state after the expiry of a timer: unless it is thinned, a timer event is appended to T, or lost and counted where T
holds 8 records (R69, R70, R71). -/
def timerExpired (s : State) (k : TimerIx) : State :=
  let r := s.timerUnit.timers.get k
  let r' := expiredRec r
  if thins s r r'.expiries.toNat = true then onTimer s k r'
  else if s.timerUnit.queue.length < 8 then
    { s with
      timerUnit := { s.timerUnit with
        timers := s.timerUnit.timers.set k r'
        queue := s.timerUnit.queue ++ [timerEventRecord s k r'.expiries] } }
  else onTimer s k { r' with lost := if r.lost < 255 then r.lost + 1 else r.lost }

end Sys2Proof.Claims

/-- R57, R62, R63, R178: Configure Line is refused INDEX above line 15 and VALUE for a role or an edge that does not exist;
otherwise the line takes both, and a sample period of 1 to 255 replaces the unit's; a new period starts the interval anew, and
a period of 0 leaves both (whether an equal period starts it anew is assumption log 25 and not stated). Read Lines
answers with the part it names, or INDEX; its FLAGS part clears the flags of every line. Nothing else changes, but for the
reset-prepared flag. -/
def Obligations.LineRequestsWriteAndReportTheLines : Prop :=
  (∀ (s : State) (tag b2 b3 b4 b5 : Byte) (rest : List Byte), Executes s →
    Completes (exec (.configureLine tag (b2 :: b3 :: b4 :: b5 :: rest)) s) fun t =>
      if 16 ≤ b2.toNat then t = answered (taken s) [0x30, tag, 3]
      else if 2 < b3.toNat ∨ b4.toNat = 0 ∨ 3 < b4.toNat then t = answered (taken s) [0x30, tag, 4]
      else
        ∃ (l : LineIx) (role : LineRole) (edge : EdgeSelect) (left : Nat), l.val = b2.toNat ∧ roleCode role = b3.toNat ∧
          edgeCode edge = b4.toNat ∧ (b5 = 0 → left = s.lineUnit.sampleLeft) ∧
          (b5 ≠ 0 → b5.toNat ≠ s.lineUnit.period → left = b5.toNat) ∧
          t = answered
            { taken s with
              lineUnit := { s.lineUnit with
                lines := s.lineUnit.lines.set l { s.lineUnit.lines.get l with role := role, edge := edge }
                period := if b5 = 0 then s.lineUnit.period else b5.toNat
                sampleLeft := left } }
            [0x30, tag, 0]) ∧
  (∀ (s : State) (tag b : Byte) (rest : List Byte), Executes s →
    Completes (exec (.readLines tag (b :: rest)) s) fun t =>
      let line := fun l : LineIx => s.lineUnit.lines.get l
      match b.toNat with
      | 0 => ∃ levels unknown : BitVec 16,
          (∀ l : LineIx, levels.getLsbD l.val = ((line l).level == some true) ∧
            unknown.getLsbD l.val = ((line l).level == none)) ∧
          t = answered (taken s) ([0x31, tag, 0] ++ two levels.toNat ++ two unknown.toNat ++
            [BitVec.ofNat 8 s.lineUnit.period])
      | 1 => ∃ changes overruns : BitVec 16,
          (∀ l : LineIx, changes.getLsbD l.val = (line l).change ∧ overruns.getLsbD l.val = (line l).overrun) ∧
          t = answered
            { taken s with
              lineUnit := { s.lineUnit with
                lines := s.lineUnit.lines.map (fun r => { r with change := false, overrun := false }) } }
            ([0x31, tag, 0] ++ two changes.toNat ++ two overruns.toNat)
      | 2 => ∃ bytes : List Byte, bytes.length = 4 ∧ t = answered (taken s) ([0x31, tag, 0] ++ bytes) ∧
          ∀ l : LineIx, l.val < 8 → (bytes.getD (l.val / 2) 0).toNat / 16 ^ (l.val % 2) % 16 =
            roleCode (line l).role + 4 * edgeCode (line l).edge
      | 3 => ∃ bytes : List Byte, bytes.length = 4 ∧ t = answered (taken s) ([0x31, tag, 0] ++ bytes) ∧
          ∀ l : LineIx, 8 ≤ l.val → (bytes.getD (l.val / 2 - 4) 0).toNat / 16 ^ (l.val % 2) % 16 =
            roleCode (line l).role + 4 * edgeCode (line l).edge
      | _ => t = answered (taken s) [0x31, tag, 3])

/-- R64, R66 to R72, R178: Configure Timer, Start Timer and Stop Timer are refused INDEX above timer 7, and otherwise write
their fields alone and answer with the timer's record as it then stands. The expiry of a running timer that a park second has
brought to 0 counts, stops a ONE_SHOT timer or reloads a PERIODIC one, and, unless it is thinned, appends a timer event to T or
counts it as lost; those of the lower-numbered timers that are due with it are taken before it, in ascending order. An expiry
that finds the timer stopped, or started again since, changes nothing. THE MODEL'S CHOICE (assumption log 6) is that a timer
whose expiry is due and not yet taken is reported, and held at a stop, with the count 1. -/
def Obligations.TimersAreSetStartedStoppedAndExpire : Prop :=
  (∀ (s : State) (tag b b3 b4 b5 : Byte) (rest : List Byte), Executes s → 8 ≤ b.toNat →
    (Completes (exec (.configureTimer tag (b :: b3 :: b4 :: b5 :: rest)) s) fun t =>
      t = answered (taken s) [0x32, tag, 3]) ∧
    (Completes (exec (.startTimer tag (b :: rest)) s) fun t => t = answered (taken s) [0x33, tag, 3]) ∧
    (Completes (exec (.stopTimer tag (b :: rest)) s) fun t => t = answered (taken s) [0x34, tag, 3])) ∧
  (∀ (s : State) (tag b b3 b4 b5 : Byte) (rest : List Byte) (k : TimerIx), Executes s → k.val = b.toNat →
    let r := s.timerUnit.timers.get k
    (Completes (exec (.configureTimer tag (b :: b3 :: b4 :: b5 :: rest)) s) fun t =>
      let preload := 256 * b4.toNat + b5.toNat
      if b3.getLsbD 7 = true then t = answered (taken s) ([0x32, tag, 0] ++ timerReport r)
      else if 2 ≤ b3.toNat % 4 then t = answered (taken s) [0x32, tag, 4]
      else
        let r' := { r with
          mode := if b3.toNat % 4 = 0 then .oneShot else .periodic
          preload := if preload = 0 then 1 else preload
          thinning := b3.getLsbD 6
          expiries := 0 }
        t = answered (onTimer (taken s) k r') ([0x32, tag, if preload = 0 then 1 else 0] ++ timerReport r')) ∧
    (Completes (exec (.startTimer tag (b :: rest)) s) fun t =>
      let r' := { r with remaining := r.preload, running := true }
      t = answered (onTimer (taken s) k r') ([0x33, tag, 0] ++ timerReport r')) ∧
    (Completes (exec (.stopTimer tag (b :: rest)) s) fun t =>
      let r' := { r with running := false, remaining := heldCount r }
      t = answered (onTimer (taken s) k r') ([0x34, tag, 0] ++ timerReport r'))) ∧
  (∀ (s : State) (k : TimerIx),
    Completes (exec (.timerExpiry k) s) fun t =>
      if timerDue s k then
        t = ((List.finRange 8).filter (fun i => decide (i ≤ k ∧ timerDue s i))).foldl timerExpired s
      else t = s)

/-- R17, R18, R19, R174, R175, R178: Read Port Status answers with the page it names of the port it names, as it stands once
the request is taken, in five data bytes; page 0 clears the four flags of the port. Another port or page is refused INDEX.
Nothing else changes, but for the reset-prepared flag. -/
def Obligations.ReadPortStatusReportsAPage : Prop :=
  ∀ (s : State) (tag b page : Byte) (rest : List Byte), Executes s →
    Completes (exec (.readPortStatus tag (b :: page :: rest)) s) fun t =>
      (7 ≤ b.toNat → t = answered (taken s) [0x39, tag, 3]) ∧
      ∀ p : Port, p.val = b.toNat →
        let u := (taken s).port p
        match page.toNat with
        | 0 =>
          t = answered
            (onPort (taken s) p
              { u with overrunSeen := false, failureSeen := false, blockedSeen := false, unsupportedSeen := false })
            [0x39, tag, 0,
             if u.active = false then 0 else if u.blocked = false then 1 else 2,
             BitVec.ofNat 8 (u.failures + (if u.overrunSeen = true then 16 else 0) +
               (if u.failureSeen = true then 32 else 0) + (if u.blockedSeen = true then 64 else 0) +
               if u.unsupportedSeen = true then 128 else 0),
             BitVec.ofNat 8 u.rx.length,
             BitVec.ofNat 8 u.frameEntries,
             BitVec.ofNat 8 (u.noticeEntries + if u.replay.isSome = true then 16 else 0)]
        | 1 => t = answered (taken s) ([0x39, tag, 0] ++ two u.received ++ two u.unmatched ++ [0])
        | 2 => t = answered (taken s) ([0x39, tag, 0] ++ two u.unsupported ++ two u.overrun ++ [0])
        | 3 => t = answered (taken s) ([0x39, tag, 0] ++ two u.forwardDrop ++ two u.forwardSkipped ++ [0])
        | 4 => t = answered (taken s) ([0x39, tag, 0] ++ two u.transmitFailure ++ [0, 0, 0])
        | _ => t = answered (taken s) [0x39, tag, 3]

/-! ### The Match Arbiter and the Match Engine -/

/-- R2, R3, R4, R9, R16, R17, R18: a data frame that a port takes, other than a request, is counted, ends BLOCKED and is
stored as a record, or lost with the newest stored record marked; at the request identifier that holds while B is LISTEN. A
remote frame and a frame with a 29-bit identifier are only counted as unsupported, with their flag set, and end BLOCKED. -/
def Obligations.FramesTakenAreCountedAndStored : Prop :=
  (∀ (s : State) (p : Port) (i : Ident) (code : BitVec 4) (bytes : List Byte),
    (BusFrame.data i code bytes).wellFormed = true →
    (p ≠ Port.B ∨ i ≠ s.requestId ∨ (s.port p).active = false) →
    Completes (exec (.frameTaken p (.data i code bytes)) s) fun t =>
      t = onPort s p (stored (heardUnit (s.port p)) (frameRecord s p i bytes))) ∧
  (∀ (s : State) (p : Port) (f : BusFrame), (∀ i code bytes, f ≠ .data i code bytes) →
    Completes (exec (.frameTaken p f) s) fun t =>
      t = onPort s p
        { hearing (s.port p) with
          unsupported := counted (s.port p).unsupported
          unsupportedSeen := true })

/-- R1, R21, R40: the Match Arbiter grants the engine when no evaluation is in flight, no commit is pending and an input
holds a record: the oldest record of the first such input, in the circular order from the pointer, becomes the record in
flight, and the pointer moves to the input after it. Otherwise nothing changes. -/
def Obligations.TheArbiterGrantsInCircularOrder : Prop :=
  ∀ s : State,
    Completes (exec .matchGrant s) fun t =>
      ((s.engine.inFlight ≠ none ∨ s.engine.commitPending = true ∨ ∀ i : Fin 10, s.inputQueue i = []) → t = s) ∧
      (s.engine.inFlight = none → s.engine.commitPending = false → ∀ k : Fin 10,
        s.inputQueue (s.pointer + k) ≠ [] → (∀ j : Fin 10, j < k → s.inputQueue (s.pointer + j) = []) →
        t.engine = { s.engine with inFlight := (s.inputQueue (s.pointer + k)).head? } ∧
        t.pointer = s.pointer + k + 1 ∧
        (∀ i : Fin 10, t.inputQueue i =
          if i = s.pointer + k then (s.inputQueue i).tail else s.inputQueue i) ∧
        (∀ p : Port, t.port p = { s.port p with rx := (t.port p).rx }) ∧
        t.lineUnit = { s.lineUnit with queue := t.lineUnit.queue } ∧
        t.timerUnit = { s.timerUnit with queue := t.timerUnit.queue } ∧
        t.management = { s.management with injection := t.management.injection } ∧
        t.contributions = s.contributions ∧ t.domains = s.domains ∧ t.slots = s.slots ∧ t.account = s.account ∧
        t.capture = s.capture ∧ t.causes = s.causes ∧ t.timeBase = s.timeBase ∧ t.pending = s.pending)

namespace Sys2Proof.Claims

/-- A row of the active table. -/
def activeRow (s : State) (i : RowIx) : Row := s.engine.active.rows.get i

/-- The data of a record passes a data test: it has the byte, which agrees with the value where the mask has a one
(R28). -/
def dataPasses (t : DataTest) (data : List Byte) : Bool :=
  match data[t.index.val]? with
  | some v => decide (∀ b : Fin 8, t.mask.getLsbD b.val = true → v.getLsbD b.val = t.value.getLsbD b.val)
  | none => false

/-- A row matches a record in the part's mode (R27, R28). -/
abbrev rowMatches (s : State) (r : FrameRecord) (i : RowIx) : Prop :=
  (activeRow s i).valid = true ∧ (activeRow s i).sources.getLsbD (sourceCode r.source) = true ∧
    ((activeRow s i).modes = .both ∨ ((activeRow s i).modes = .run ∧ s.mode = .run) ∨
      ((activeRow s i).modes = .park ∧ s.mode = .park)) ∧
    (∀ b : Fin 11, (activeRow s i).mask.getLsbD b.val = true →
      r.ident.getLsbD b.val = (activeRow s i).ident.getLsbD b.val) ∧
    (∀ t ∈ (activeRow s i).test, dataPasses t r.data = true)

/-- A domain attached to the source of a record may act on it: the record carries its fault, announce or sleep-ready
identifier (R82). -/
abbrev recognisedBy (s : State) (r : FrameRecord) (d : Domain) : Prop :=
  r.source = .port (s.portOf d) ∧
    ((s.dom d).params.faultId = some r.ident ∨ (s.dom d).params.announceId = some r.ident ∨
      (s.dom d).params.sleepReadyId = some r.ident)

/-- The forward set of the result holds a port (R30). -/
abbrev forwardedTo (s : State) (r : FrameRecord) (p : Port) : Prop :=
  (∃ q : Port, r.source = .port q ∧ p ≠ q) ∧ r.injected = false ∧ ∃ i : RowIx, rowMatches s r i ∧ hasPort (activeRow s i).forward p = true

/-- A forwarded frame is appended to a port's forward queue at once (R11, R33). -/
abbrev takenLive (s : State) (r : FrameRecord) (p : Port) : Prop :=
  forwardedTo s r p ∧ (s.port p).active = true ∧ (s.port p).frameEntries < 24

/-- The record flag of the result (R33). -/
abbrev recordedBy (s : State) (r : FrameRecord) : Prop :=
  s.mode = .park ∧ r.injected = false ∧ ∃ i : RowIx, rowMatches s r i ∧ (activeRow s i).record = true

/-- The set of the domains of a list (R174). -/
def setOf (ds : List Domain) : DomainSet := BitVec.ofNat 12 (ds.map (fun d => 2 ^ d.val)).sum

/-- The post frames that the buffer at the write pointer still waits for once a record has been taken into it (R145). -/
def postAfter (s : State) (r : FrameRecord) : Nat :=
  (s.buffer s.capture.writePtr).postLeft - if recordedBy s r then 1 else 0

/-- From `s` to `t` the buffer at the write pointer has closed: the ports that it still has pending are among those it had and
those of the domains it woke, each with a frame due; the write pointer has advanced, and the next buffer opens if it was FREE
(R144, R148). -/
abbrev ClosesTo (s t : State) : Prop :=
  let w := s.capture.writePtr
  let next := (w + 1) % (32 / 2 ^ s.capture.mode.val)
  let b := t.buffer w
  b.state = (if b.pending = 0 then .done else .closed) ∧ b.postLeft = 0 ∧ b.closeSecond = s.management.clock ∧
    (∀ p : Port, hasPort b.pending p = true → dueOn b p ≠ 0 ∧
      (hasPort (s.buffer w).pending p = true ∨ ∃ d : Domain, hasDomain b.woken d = true ∧ s.portOf d = p)) ∧
    t.capture.writePtr = next ∧
    t.buffer next =
      if (s.buffer next).state = .free then
        { s.buffer next with state := .opened, epoch := s.management.epoch }
      else s.buffer next

/-- The slot that the next frame of a buffer takes (R145). -/
def nextSlot (b : Buffer) (size : Nat) : Nat :=
  match b.stop with
  | none => 0
  | some k => if k + 1 = size then 0 else k + 1

/-- A plain matching row that wakes a domain (R26, R31). -/
abbrev wakesDirectly (s : State) (r : FrameRecord) (d : Domain) (i : RowIx) : Prop :=
  rowMatches s r i ∧ (activeRow s i).veto = false ∧ (activeRow s i).group = none ∧
    hasDomain (activeRow s i).wake d = true

/-- A matching veto row that names a domain (R26, R31). -/
abbrev vetoes (s : State) (r : FrameRecord) (d : Domain) (i : RowIx) : Prop :=
  rowMatches s r i ∧ (activeRow s i).veto = true ∧ (activeRow s i).group = none ∧
    hasDomain (activeRow s i).wake d = true

/-- The plain matching rows that wake a domain no veto row names, in ascending order (R31). -/
def wakingRows (s : State) (r : FrameRecord) (d : Domain) : List RowIx :=
  if ∃ i : RowIx, vetoes s r d i then [] else (List.finRange 128).filter (fun i => wakesDirectly s r d i)

/-- The lowest class number of the rows of a list (R31). -/
def classOf (s : State) (rows : List RowIx) : WakeClass :=
  rows.foldl (fun c i => if (activeRow s i).cls.val < c.val then (activeRow s i).cls else c) 3

/-- The buffer that the record of an outcome names (R132, R138, R147). -/
def bufferNamed (s : State) (o : WakeOutcome) : Option Nat :=
  if o = .admitted ∧ s.mode = .park ∧ recordsInto (s.buffer s.capture.writePtr) then some s.capture.writePtr else none

/-- The cause records of one wake request of a class and a cause for each domain of a list (R138). -/
def requestRecords (s : State) (ds : List Domain) (cls : Domain → WakeClass) (cause : Domain → Cause) :
    List CauseRecord :=
  ds.map (fun d =>
    { second := s.management.clock, domain := d, cause := cause d, cls := cls d,
      outcome := outcomeOf s d (cls d), buffer := bufferNamed s (outcomeOf s d (cls d)) })

/-- What one wake request does to the state and the wake class of its domain (R78, R93, R98). -/
def afterRequest (s : State) (d : Domain) (c : WakeClass) : DomainState × Option WakeClass :=
  match outcomeOf s d c with
  | .admitted => (if (s.dom d).state = .winding then .awake else .queued, some c)
  | .merged => ((s.dom d).state, some (lowered (s.dom d).wakeClass c))
  | _ => ((s.dom d).state, (s.dom d).wakeClass)

end Sys2Proof.Claims

/-- R11, R23, R24, R27 to R30, R33, R35, R144, R145, R148: the completion of an evaluation ends it and counts one hit on every matching
row, or one unmatched record on its source port. Where no domain recognises the record, it is offered as one frame entry to
each port of the forward set, and a recorded frame is written to the next slot of the OPEN or POST buffer with its forward
set and the ports that took it live, or is counted as lost. A POST buffer counts the frame recorded, and closes once it waits
for none; an OPEN buffer that is triggered waits for Npost frames, and closes at once where Npost is 0. With no evaluation in
flight nothing changes. -/
def Obligations.CompletionCountsForwardsAndRecords : Prop :=
  (∀ s : State, s.engine.inFlight = none → Completes (exec .evaluationCompletion s) fun t => t = s) ∧
  (∀ (s : State) (r : FrameRecord), s.engine.inFlight = some r →
    Completes (exec .evaluationCompletion s) fun t =>
      t.engine = { s.engine with inFlight := none, hits := t.engine.hits } ∧
      (∀ i : RowIx, t.engine.hits.get i =
        if rowMatches s r i then counted (s.engine.hits.get i) else s.engine.hits.get i) ∧
      (∀ p : Port, (t.port p).unmatched =
          (if r.source = .port p ∧ ∀ i : RowIx, ¬rowMatches s r i then counted (s.port p).unmatched
           else (s.port p).unmatched) ∧
        (t.port p).rx = (s.port p).rx ∧ (t.port p).received = (s.port p).received) ∧
      t.management = s.management ∧ t.pointer = s.pointer ∧ t.lineUnit = s.lineUnit ∧ t.timerUnit = s.timerUnit ∧
      t.timeBase = s.timeBase ∧ t.pending = s.pending) ∧
  (∀ (s : State) (r : FrameRecord), s.engine.inFlight = some r → (∀ d : Domain, ¬recognisedBy s r d) →
    Completes (exec .evaluationCompletion s) fun t =>
      (∀ p : Port,
        (t.port p).fwd.filter FwdEntry.isFrame =
          (s.port p).fwd.filter FwdEntry.isFrame ++
            (if takenLive s r p then [FwdEntry.frame r.ident r.data false] else []) ∧
        (t.port p).forwardSkipped =
          (if forwardedTo s r p ∧ (s.port p).active = false then counted (s.port p).forwardSkipped
           else (s.port p).forwardSkipped) ∧
        (t.port p).forwardDrop =
          (if forwardedTo s r p ∧ (s.port p).active = true ∧ 24 ≤ (s.port p).frameEntries then
            counted (s.port p).forwardDrop
           else (s.port p).forwardDrop)) ∧
      t.capture.loss =
        (if recordedBy s r ∧ ¬recordsInto (s.buffer s.capture.writePtr) then counted s.capture.loss
         else s.capture.loss) ∧
      (s.StoreFits → recordsInto (s.buffer s.capture.writePtr) →
        let w := s.capture.writePtr
        let k := nextSlot (s.buffer w) (16 * 2 ^ s.capture.mode.val)
        if recordedBy s r then
          (t.buffer w).stop = some k ∧
          (t.buffer w).slots = (s.buffer w).slots.take k ++
            { record := r
              forward := portsWhere (fun p => forwardedTo s r p)
              delivered := portsWhere (fun p => takenLive s r p) } :: (s.buffer w).slots.drop (k + 1)
        else (t.buffer w).slots = (s.buffer w).slots ∧ (t.buffer w).stop = (s.buffer w).stop) ∧
      (s.StoreFits → s.RecordingFits → s.PortsFollow →
        let w := s.capture.writePtr
        let b := t.buffer w
        ((s.buffer w).state = .post →
          (postAfter s r ≠ 0 → b.state = .post ∧ b.postLeft = postAfter s r ∧ t.capture.writePtr = w) ∧
          (postAfter s r = 0 → ClosesTo s t ∧
            ∀ p : Port, hasPort (s.buffer w).pending p = true → dueOn b p ≠ 0 → hasPort b.pending p = true)) ∧
        ((s.buffer w).state = .opened →
          (b.state = .opened ∧ t.capture.writePtr = w) ∨
          (s.capture.post ≠ 0 ∧ b.state = .post ∧ b.postLeft = s.capture.post ∧ t.capture.writePtr = w) ∨
          (s.capture.post = 0 ∧ ClosesTo s t))))

/-- R31, R78, R93, R98, R131, R132, R138, R147: where no domain recognises the record and no matching row is grouped, each domain
that a matching plain row wakes and no matching veto row names gets one wake request, of the lowest class among those rows
and with the lowest-numbered of them as its cause, and one cause record, in domain order. Each domain takes the state and
the class that its outcome gives, and no other domain changes either. In PARK the first domain admitted triggers an OPEN
buffer, with the row as the trigger, and every domain admitted joins the woken set and its port the pending set. -/
def Obligations.CompletionMakesTheDirectWakes : Prop :=
  ∀ (s : State) (r : FrameRecord), s.engine.inFlight = some r → (∀ d : Domain, ¬recognisedBy s r d) →
    (∀ i : RowIx, rowMatches s r i → (activeRow s i).group = none) →
    Completes (exec .evaluationCompletion s) fun t =>
      t.causes = recorded s.causes
        (requestRecords s (domainsWhere (fun d => wakingRows s r d != []))
          (fun d => classOf s (wakingRows s r d)) (fun d => .rule ((wakingRows s r d).headD 0))) ∧
      (∀ d : Domain, ((t.dom d).state, (t.dom d).wakeClass) =
        if wakingRows s r d = [] then ((s.dom d).state, (s.dom d).wakeClass)
        else afterRequest s d (classOf s (wakingRows s r d))) ∧
      t.contributions = s.contributions ∧
      t.account = { s.account with tokens := t.account.tokens } ∧
      (s.mode = .park → s.PortsFollow → s.StoreFits → s.RecordingFits →
        let b := s.buffer s.capture.writePtr
        let b' := t.buffer s.capture.writePtr
        let ds := domainsWhere (fun d =>
          wakingRows s r d != [] && outcomeOf s d (classOf s (wakingRows s r d)) == .admitted)
        (b.state = .opened → ds = [] → b'.state = .opened ∧ b'.trigger = b.trigger) ∧
        (b.state = .opened → ∀ d ∈ ds.head?,
          b'.trigger = some (.rule ((wakingRows s r d).headD 0)) ∧ b'.woken = setOf ds ∧
          (s.capture.post ≠ 0 → b'.state = .post ∧ b'.postLeft = s.capture.post ∧
            b'.pending = portsWhere (fun p => ds.any (fun e => s.portOf e == p)))) ∧
        (b.state = .post → b'.trigger = b.trigger ∧ b'.woken = b.woken ||| setOf ds))

namespace Sys2Proof.Claims

/-- The contribution list of a group after a contribution of a row (R49). -/
def afterContribution (s : State) (g : GroupIx) (i : RowIx) : List Contribution :=
  (s.contributions.get g).filter (fun e => e.row != i) ++ [{ row := i, taken := s.timeBase }]

end Sys2Proof.Claims

/-- R32, R47 to R51, R138: where no domain recognises the record, no domain is woken directly and row i is the one matching
row that is grouped, its contribution is discarded when its group is disabled, and otherwise moves the row's entry to the
tail of the group's list. Below the threshold the list stands. At the threshold the list is emptied, and each domain of the
group's wake set gets one wake request of the group's class and one GROUP record, in domain order. A contribution expiry
removes the entries of its group that were taken at its time once they are as old as the group's window, and nothing else. -/
def Obligations.ContributionsFireTheirGroupAndExpire : Prop :=
  (∀ (s : State) (r : FrameRecord) (i : RowIx) (g : GroupIx), s.engine.inFlight = some r →
    (∀ d : Domain, ¬recognisedBy s r d ∧ wakingRows s r d = []) → rowMatches s r i → (activeRow s i).group = some g →
    (∀ j : RowIx, rowMatches s r j → (activeRow s j).group ≠ none → j = i) →
    Completes (exec .evaluationCompletion s) fun t =>
      let gd := s.engine.active.groups.get g
      let l := afterContribution s g i
      let fired := gd.enabled = true ∧ gd.threshold ≤ l.length
      t.contributions =
        (if gd.enabled = false then s.contributions
         else if gd.threshold ≤ l.length then s.contributions.set g []
         else s.contributions.set g l) ∧
      (¬fired → t.causes = s.causes ∧
        ∀ d : Domain, (t.dom d).state = (s.dom d).state ∧ (t.dom d).wakeClass = (s.dom d).wakeClass) ∧
      (fired →
        t.causes = recorded s.causes
          (requestRecords s (domainsWhere (hasDomain gd.wake)) (fun _ => gd.cls) (fun _ => .group g)) ∧
        ∀ d : Domain, ((t.dom d).state, (t.dom d).wakeClass) =
          if hasDomain gd.wake d = true then afterRequest s d gd.cls
          else ((s.dom d).state, (s.dom d).wakeClass))) ∧
  (∀ (s : State) (g : GroupIx) (taken : Nat),
    Completes (exec (.contributionExpiry g taken) s) fun t =>
      if taken + (s.engine.active.groups.get g).window ≤ s.timeBase then
        t = { s with
          contributions := s.contributions.set g ((s.contributions.get g).filter (fun e => e.taken != taken)) }
      else t = s)

namespace Sys2Proof.Claims

/-- An announce frame makes a domain AWAKE: it is POWERING and its effective ready mode is ANNOUNCE (R73, R80). -/
abbrev readies (r : DomainRec) (i : Ident) : Prop :=
  r.params.announceId = some i ∧ r.state = .powering ∧ r.params.readyMode = .announce

/-- A sleep-ready frame puts a domain to sleep: it is WINDING (R92). -/
abbrev winds (r : DomainRec) (i : Ident) : Prop := r.params.sleepReadyId = some i ∧ r.state = .winding

/-- The frames that a record carries for a domain and that cause no transition (R80, R82, R92). -/
def ignoredFrames (r : DomainRec) (i : Ident) : Nat :=
  (if r.params.announceId = some i ∧ ¬readies r i then 1 else 0) +
    if r.params.sleepReadyId = some i ∧ ¬winds r i then 1 else 0

/-- A 16-bit counter after `n` more occurrences (R17). -/
def countedBy (n c : Nat) : Nat :=
  match n with
  | 0 => c
  | n + 1 => counted (countedBy n c)

/-- An identifier counts as activity of a domain (R82). -/
abbrev isActivity (q : DomainParams) (i : Ident) : Prop :=
  ∀ x ∈ q.activity, ∀ b : Fin 11, x.2.getLsbD b.val = true → i.getLsbD b.val = x.1.getLsbD b.val

end Sys2Proof.Claims

/-- R34, R80, R82, R83, R85, R86, R92: a record from a port that no row matches is still recognised by the domains attached
to that port. A fault frame puts a powered domain in FAULT and counts a fault; for any other it is ignored. An announce
frame makes a POWERING domain of ready mode ANNOUNCE AWAKE, a sleep-ready frame takes a WINDING domain to ASLEEP, and each
that causes no transition is ignored. A frame that counts as activity restarts the idle timer of an AWAKE domain. The
domains of other ports and the Cause Queue are as they were. -/
def Obligations.FramesOfADomainAreRecognised : Prop :=
  ∀ (s : State) (r : FrameRecord) (p : Port), s.engine.inFlight = some r → r.source = .port p →
    (∀ i : RowIx, ¬rowMatches s r i) →
    Completes (exec .evaluationCompletion s) fun t =>
      t.causes = s.causes ∧ t.account = s.account ∧
      ∀ d : Domain,
        let x := s.dom d
        let y := t.dom d
        y.params = x.params ∧ y.forcedSleep = x.forcedSleep ∧
        (s.portOf d ≠ p → y = x) ∧
        (s.portOf d = p → x.params.faultId = some r.ident →
          if x.state = .powering ∨ x.state = .awake ∨ x.state = .winding then
            y.state = .fault ∧ y.enable = false ∧ y.wakeClass = none ∧ y.faults = counted x.faults ∧
            y.ignored = x.ignored ∧ y.readyTimer = none ∧ y.windTimer = none ∧ y.minAwakeTimer = none ∧
            y.slotHeld = false ∧ t.slots.holders.get d = none
          else y = { x with ignored := counted x.ignored }) ∧
        (s.portOf d = p → x.params.faultId ≠ some r.ident →
          y.faults = x.faults ∧ y.ignored = countedBy (ignoredFrames x r.ident) x.ignored ∧
          (readies x r.ident → y.state = .awake ∧ y.enable = true ∧ y.readyTimer = none ∧
            y.idleTimer = .running x.params.idleTimeout ∧
            y.minAwakeTimer = (if x.params.minAwake = 0 then none else some x.params.minAwake) ∧
            y.wakeClass = x.wakeClass) ∧
          (winds x r.ident → y.state = .asleep ∧ y.enable = false ∧ y.windTimer = none ∧ y.sleepReason = none ∧
            y.wakeClass = none ∧ y.slotHeld = false ∧ t.slots.holders.get d = none) ∧
          (¬readies x r.ident → ¬winds x r.ident →
            y = { x with
              ignored := y.ignored
              idleTimer := if x.state = .awake ∧ isActivity x.params r.ident then .running x.params.idleTimeout
                else x.idleTimer }))

/-! ### The events of domains and slots -/

namespace Sys2Proof.Claims

/-- The state after a slot is granted to domain `d` with `rest` left waiting, before any charge (R78, R105). -/
def grantedTo (s : State) (d : Domain) (rest : List WaitEntry) : State :=
  { onDomain s d
      { s.dom d with
        state := .powering
        enable := true
        slotHeld := true
        retriesUsed := 0
        readyTimer := some (s.dom d).params.readyTimeout } with
    slots := { s.slots with holders := s.slots.holders.set d (some .powering), queue := rest } }

/-- A change of the tier from the one of `s`, whose domains stand as in `s`, to the account `a`: a lower tier sheds the
domains that it does not serve, with BUDGET records of second `second`, and any other changes the account alone (R97, R125,
R127, R138). -/
def Retiered (s : State) (second : BitVec 32) (a : Account) (t : State) : Prop :=
  t.account = a ∧
    (depth a.tier ≤ depth s.account.tier → t = { s with account := a }) ∧
    (depth s.account.tier < depth a.tier →
      (∀ d : Domain,
        (t.dom d).state = (if shedBy s a.tier d = true then shedState (s.dom d).state else (s.dom d).state) ∧
        (shedBy s a.tier d = true → (s.dom d).state = .awake → (t.dom d).sleepReason = some .shed) ∧
        (shedBy s a.tier d = true → (s.dom d).state ≠ .awake →
          (t.dom d).wakeClass = none ∧ t.slots.holders.get d = none)) ∧
      t.causes = recorded s.causes (shedRecords s second a.tier) ∧ t.management = s.management ∧
      t.engine = s.engine ∧ t.lineUnit = s.lineUnit ∧ t.timerUnit = s.timerUnit)

end Sys2Proof.Claims

/-- R78, R97, R105, R106, R107, R123, R125, R127: a slot is granted to the head of the wait queue while fewer slots are held
than the slot count, and otherwise nothing changes. The domain leaves the queue and becomes POWERING with its slot held, its
enable line asserted and its ready timer at Tready. In PARK its ramp charge is added to A; a ramp charge of 0 changes no tier,
and any other sets the tier prescribed and sheds at a lower one. A hold expiry releases the slot of a domain in the HOLD
phase, and finds nothing to do in any other. THE MODEL'S CHOICE (assumption log 5) is that a hold expires at its command,
whatever count it has left. -/
def Obligations.SlotsAreGrantedAndHoldsExpire : Prop :=
  (∀ (s : State) (e : WaitEntry) (rest : List WaitEntry), s.PortsFollow → s.WaitQueueFits → s.slots.queue = e :: rest →
    (List.finRange 12).countP (fun d => (s.slots.holders.get d).isSome) < s.slots.count →
    Completes (exec .slotGrant s) fun t =>
      let d := e.domain
      let a := { s.account with
        spent := min (2 ^ 48 - 1) (s.account.spent + 1000 * (s.dom d).params.rampCharge) }
      if s.mode = .run then t = grantedTo s d rest
      else if (s.dom d).params.rampCharge = 0 then t = { grantedTo s d rest with account := a }
      else
        Retiered (grantedTo s d rest) s.management.clock
          { a with tier := tierFor (3600000 * a.budget - a.spent) (3600000 * a.budget) a.upper a.lower } t) ∧
  (∀ s : State,
    (s.slots.queue = [] ∨
      s.slots.count ≤ (List.finRange 12).countP (fun d => (s.slots.holders.get d).isSome)) →
    Completes (exec .slotGrant s) fun t => t = s) ∧
  (∀ (s : State) (d : Domain),
    Completes (exec (.holdExpiry d) s) fun t =>
      match s.slots.holders.get d with
      | some (.hold _) =>
        t = { onDomain s d { s.dom d with slotHeld := false } with
          slots := { s.slots with holders := s.slots.holders.set d none } }
      | _ => t = s)

/-- R5, R8, R79, R81, R85, R91, R92, R106, R107, R138, R152, R153: the ready timer of a POWERING domain expires. A domain
whose effective ready mode is TIMED becomes AWAKE, with its slot released or its hold begun. An ANNOUNCE domain starts its
timer again while a retry is left, and otherwise goes to FAULT with a FAILED record of the class it held. The wind timer of a
WINDING domain expires: the domain goes to ASLEEP and a forced sleep is counted. A domain that leaves so for FAULT or ASLEEP
gives up its slot and its notice entry; its port listens where no other domain keeps it ACTIVE, holds its queue and has its
replay aborted, and leaves the buffers that wait for the domain alone. An expiry that finds its timer stopped changes nothing.
THE MODEL'S CHOICE, for such a domain, is that a replay aborted while the port sends an entry of its forward queue is aborted
at once (assumption log 14), that the notice field waits for the end of the attempt that sends the notice entry (assumption
log 16), and that a sleep reason left standing at FAULT stays (assumption log 12). So is that a running timer expires at its
command, whatever count it has left (assumption log 5). -/
def Obligations.ReadyAndWindTimersExpire : Prop :=
  (∀ (s : State) (d : Domain),
    Completes (exec (.readyTimerExpiry d) s) fun t =>
      let x := s.dom d
      let y := t.dom d
      if x.state = .powering ∧ x.readyTimer.isSome = true then
        if x.params.readyMode = .timed ∨ x.params.announceId = none then
          y.state = .awake ∧ y.enable = true ∧ y.readyTimer = none ∧ y.wakeClass = x.wakeClass ∧
          y.idleTimer = .running x.params.idleTimeout ∧
          y.minAwakeTimer = (if x.params.minAwake = 0 then none else some x.params.minAwake) ∧
          (s.slots.holders.get d = some .powering →
            (x.params.slotHold = 0 → t.slots.holders.get d = none ∧ y.slotHeld = false) ∧
            (x.params.slotHold ≠ 0 → t.slots.holders.get d = some (.hold x.params.slotHold) ∧
              y.slotHeld = x.slotHeld)) ∧
          (s.AttachmentsFit → (t.port (s.portOf d)).active = true ∧ t.capture = s.capture) ∧
          t.slots.queue = s.slots.queue ∧
          (∀ e : Domain, e ≠ d → t.dom e = s.dom e ∧ t.slots.holders.get e = s.slots.holders.get e) ∧
          t.causes = s.causes ∧ t.account = s.account ∧ t.engine = s.engine
        else if x.retriesUsed < x.params.readyRetries then
          t = onDomain s d { x with retriesUsed := x.retriesUsed + 1, readyTimer := some x.params.readyTimeout }
        else
          y.state = .fault ∧ y.enable = false ∧ y.readyTimer = none ∧ y.wakeClass = none ∧ y.slotHeld = false ∧
          y.retriesUsed = x.retriesUsed ∧ y.faults = x.faults ∧ t.slots.holders.get d = none ∧
          (∀ c ∈ x.wakeClass, t.causes = (noted s d .ready c .failed none).causes ∧
            (s.AttachmentsFit → s.PortsFollow → s.NoticesFit →
              t = offTo (noted s d .ready c .failed none) d
                { x with
                  state := .fault, enable := false, wakeClass := none, readyTimer := none, slotHeld := false })) ∧
          (∀ e : Domain, e ≠ d → t.dom e = s.dom e) ∧ t.account = s.account ∧ t.engine = s.engine
      else t = s) ∧
  (∀ (s : State) (d : Domain),
    Completes (exec (.windExpiry d) s) fun t =>
      let x := s.dom d
      let y := t.dom d
      if x.state = .winding ∧ x.windTimer.isSome = true then
        y.state = .asleep ∧ y.enable = false ∧ y.windTimer = none ∧ y.sleepReason = none ∧ y.wakeClass = none ∧
        y.forcedSleep = counted x.forcedSleep ∧ y.ignored = x.ignored ∧ y.slotHeld = false ∧
        (s.AttachmentsFit → s.PortsFollow → s.NoticesFit →
          t = offTo s d
            { x with
              state := .asleep
              enable := false
              wakeClass := none
              windTimer := none
              sleepReason := none
              forcedSleep := counted x.forcedSleep
              slotHeld := false }) ∧
        t.slots.holders.get d = none ∧ (∀ e : Domain, e ≠ d → t.dom e = s.dom e) ∧
        t.causes = s.causes ∧ t.account = s.account ∧ t.engine = s.engine
      else t = s)

namespace Sys2Proof.Claims

/-- An AWAKE domain goes to WINDING with reason IDLE: its idle timer stops, its min-awake timer has elapsed, its enable line
and its class stay, and the notice field decides by the table of R88. -/
def WindsIdle (s : State) (d : Domain) (t : State) : Prop :=
  let x := s.dom d
  let y := t.dom d
  y.state = .winding ∧ y.sleepReason = some .idle ∧ y.idleTimer = .stopped ∧ y.minAwakeTimer = none ∧
    y.enable = true ∧ y.wakeClass = x.wakeClass ∧ y.slotHeld = x.slotHeld ∧
    (s.PortsFollow → s.NoticesFit → t = woundDown s d .idle) ∧
    (∀ e : Domain, e ≠ d → t.dom e = s.dom e) ∧ t.slots = s.slots ∧ t.causes = s.causes ∧ t.account = s.account ∧
    t.engine = s.engine

end Sys2Proof.Claims

/-- R84, R87, R88, R89, R91: the idle timer of an AWAKE domain expires, and its min-awake timer elapses, once a park second
has brought it to 0. In PARK the second of the two sends the domain to WINDING with reason IDLE, where the notice field decides
whether a sleep notice is offered, a cancel notice withdrawn or the wind timer started; otherwise no other field changes. An
expiry that finds its timer at any other count changes nothing. THE MODEL'S CHOICE (assumption log 6) is that such an expiry is
taken by its own command while the count stands at 0, and that the command has no effect at any other count. -/
def Obligations.IdleDomainsWindInPark : Prop :=
  (∀ (s : State) (d : Domain),
    Completes (exec (.idleExpiry d) s) fun t =>
      let x := s.dom d
      if x.state = .awake ∧ x.idleTimer = .running 0 then
        if s.mode = .park ∧ x.minAwakeTimer = none then WindsIdle s d t
        else t = onDomain s d { x with idleTimer := .expired }
      else t = s) ∧
  (∀ (s : State) (d : Domain),
    Completes (exec (.minAwakeElapse d) s) fun t =>
      let x := s.dom d
      if x.state = .awake ∧ x.minAwakeTimer = some 0 then
        if s.mode = .park ∧ x.idleTimer = .expired then WindsIdle s d t
        else t = onDomain s d { x with minAwakeTimer := none }
      else t = s)

/-! ### Transmission and replay -/

namespace Sys2Proof.Claims

/-- Buffer `j` is CLOSED with port `p` pending (R149). -/
abbrev pendingOn (s : State) (p : Port) (j : Nat) : Prop :=
  (s.buffer j).state = .closed ∧ hasPort (s.buffer j).pending p = true

/-- The buffer that stands `k` places after the read pointer in ring order (R142, R154). -/
def ringAt (s : State) (k : Nat) : Nat := (s.capture.readPtr + k) % (32 / 2 ^ s.capture.mode.val)

/-- The replay of the buffer `k` places after the read pointer may begin on a port (R149). -/
abbrev replayable (s : State) (p : Port) (k : Nat) : Prop :=
  (s.port p).replay = none ∧ (s.port p).active = true ∧ (s.port p).blocked = false ∧ pendingOn s p (ringAt s k) ∧
    (∀ m < k, ¬pendingOn s p (ringAt s m)) ∧
    ∃ d : Domain, hasDomain (s.buffer (ringAt s k)).woken d = true ∧ s.portOf d = p ∧
      ((s.dom d).state = .awake ∨ (s.dom d).state = .winding)

/-- The identifier and the data bytes of the frame that an entry of a forward queue is sent as: a notice frame holds the kind
and the reason (R10, R179). -/
def sentAs (e : FwdEntry) : Ident × List Byte :=
  match e with
  | .frame i data _ => (i, data)
  | .notice _ i (.sleep .idle) => (i, [1, 1])
  | .notice _ i (.sleep .mgmt) => (i, [1, 2])
  | .notice _ i (.sleep .shed) => (i, [1, 3])
  | .notice _ i .cancel => (i, [0, 0])

/-- A port with an attempt begun (R13). -/
def begun (u : PortUnit) (x : Sending) : PortUnit :=
  { u with attempt := some { sending := x, detached := false, removal := false } }

end Sys2Proof.Claims

/-- R10, R13, R16, R149, R150, R179: a port that is ACTIVE, not BLOCKED and sends nothing starts an attempt with the oldest
frame due of the replay in flight on it, or, with no replay in flight, with the oldest entry of its forward queue; otherwise
it starts none. What it sends is the frame of that entry or of that slot. A replay begins on a port that may send, of the
oldest CLOSED buffer pending there, once a woken domain of that buffer on the port is AWAKE or WINDING. A recovery timer that
expires ends BLOCKED, with the failure count 0. THE MODEL'S CHOICE (assumption log 26) is that an attempt still in progress on
the port does not hold a replay back. So is that a running recovery timer expires at its command, whatever count it has left
(assumption log 5). -/
def Obligations.AttemptsReplaysAndRecoveryStart : Prop :=
  (∀ (s : State) (p : Port),
    Completes (exec (.transmissionStart p) s) fun t =>
      let u := s.port p
      if u.active = true ∧ u.blocked = false ∧ u.attempt = none then
        match u.replay with
        | none =>
          (t = if u.fwd = [] then s else onPort s p (begun u .queueHead)) ∧
            ∀ e ∈ u.fwd.head?, t.onBus p = some (sentAs e)
        | some j =>
          ∀ slot ∈ ((s.buffer j).dueSlots p).head?,
            t = onPort s p (begun u (.replay j slot)) ∧
              ∀ f ∈ (s.buffer j).slots[slot]?, t.onBus p = some (f.record.ident, f.record.data)
      else t = s) ∧
  (∀ (s : State) (p : Port),
    (∀ k < 32 / 2 ^ s.capture.mode.val, replayable s p k →
      Completes (exec (.replayStart p) s) fun t => t = onPort s p { s.port p with replay := some (ringAt s k) }) ∧
    ((∀ k < 32 / 2 ^ s.capture.mode.val, ¬replayable s p k) →
      Completes (exec (.replayStart p) s) fun t => t = s)) ∧
  (∀ (s : State) (p : Port),
    Completes (exec (.recoveryTimerExpiry p) s) fun t =>
      if (s.port p).blocked = true ∧ (s.port p).recovery.isSome = true then
        t = onPort s p { s.port p with blocked := false, recovery := none, failures := 0 }
      else t = s)

namespace Sys2Proof.Claims

/-- A port after the end of an attempt of a given outcome, before the entry or the replay is dealt with (R8, R14, R15). -/
def ended (u : PortUnit) (detached : Bool) (o : TxOutcome) : PortUnit :=
  match o, detached with
  | .success, true => { u with attempt := none }
  | .success, false => { u with attempt := none, failures := 0 }
  | .lostArbitration, _ => { u with attempt := none }
  | .failure, true =>
    { u with attempt := none, transmitFailure := counted u.transmitFailure, failureSeen := true }
  | .failure, false =>
    { u with
      attempt := none
      transmitFailure := counted u.transmitFailure
      failureSeen := true
      failures := if u.failures < 8 then u.failures + 1 else u.failures
      blocked := u.blocked || decide (7 ≤ u.failures)
      blockedSeen := u.blockedSeen || decide (7 ≤ u.failures)
      recovery := if 7 ≤ u.failures then some 1000 else u.recovery }

/-- The domains after the end of an attempt on a port: the wind timer of each WINDING domain attached to a port that is left
BLOCKED by a failure runs (R15, R89). -/
def endedDomain (s : State) (p : Port) (detached : Bool) (o : TxOutcome) (d : Domain) : DomainRec :=
  if o = .failure ∧ detached = false ∧ (ended (s.port p) detached o).blocked = true ∧ s.portOf d = p ∧
      (s.dom d).state = .winding then
    { s.dom d with windTimer := some ((s.dom d).windTimer.getD (s.dom d).params.windTimeout) }
  else s.dom d

/-- The state after the end of an attempt on a port, before the entry or the replay is dealt with (R8, R14, R15, R89). -/
def afterEnd (s : State) (p : Port) (detached : Bool) (o : TxOutcome) : State :=
  { onPort s p (ended (s.port p) detached o) with domains := Tab.ofFn (endedDomain s p detached o) }

/-- The state with the oldest entry gone from a port's forward queue (R14). -/
def dequeued (s : State) (p : Port) : State := onPort s p { s.port p with fwd := (s.port p).fwd.tail }

/-- A buffer whose frame in a slot has reached a port (R150). -/
def delivered (b : Buffer) (p : Port) (slot : Nat) : Buffer :=
  { b with slots := b.slots.modify slot (fun f => { f with delivered := f.delivered ||| onlyPort p }) }

/-- The state with one buffer changed. -/
def onBuffer (s : State) (j : Nat) (f : Buffer → Buffer) : State :=
  { s with capture := { s.capture with buffers := s.capture.buffers.modify j f } }

/-- A port with no replay in flight and no abort due. -/
def replayOver (u : PortUnit) : PortUnit := { u with replay := none, abortDue := false }

end Sys2Proof.Claims

/-- R8, R12, R14, R15, R89, R90, R91, R172: an attempt that sent the oldest entry of the forward queue ends. A success removes
the entry and clears the failure count; a sleep notice reported so is SLEEP SENT with the wind timer running, a cancel notice
leaves the field NONE, and the response of a pending Reset brings about the management reset. Lost arbitration changes
nothing. A failure is counted, the eighth in a row makes the port BLOCKED for 1000 milliseconds, and the wind timers of its
WINDING domains then run. A detached attempt changes no failure count. Without an attempt nothing changes. A notice whose
withdrawal was asked for leaves the queue at any outcome, and the table of R91 settles the field. THE MODEL'S CHOICE is that a
failure which makes the port BLOCKED does so before the table is read (assumption log 13), and that the management reset keeps
the time base and the waiting commands (assumption log 20). -/
def Obligations.QueueAttemptsEnd : Prop :=
  (∀ (s : State) (p : Port) (o : TxOutcome), (s.port p).attempt = none →
    Completes (exec (.transmissionEnd p o) s) fun t => t = s) ∧
  (∀ (s : State) (p : Port) (o : TxOutcome) (a : Attempt) (e : FwdEntry) (rest : List FwdEntry),
    (s.port p).attempt = some a → a.sending = .queueHead → (s.port p).fwd = e :: rest →
    Completes (exec (.transmissionEnd p o) s) fun t =>
      let z := afterEnd s p a.detached o
      match e with
      | .frame _ _ isReset =>
        if o = .success then
          if isReset = true ∧ s.management.resetPending = true then t = afterManagementReset s
          else t = dequeued z p
        else t = z
      | .notice d _ kind =>
        if a.removal = true then
          s.NoticesFit → t = settledAs (dequeued z p) d (kind != .cancel) (o == .success)
        else if o = .success then
          t = onDomain (dequeued z p) d
            (match kind with
              | .sleep _ =>
                { s.dom d with
                  notice := .sleepSent
                  windTimer :=
                    if (s.dom d).state = .winding then
                      some ((s.dom d).windTimer.getD (s.dom d).params.windTimeout)
                    else (s.dom d).windTimer }
              | .cancel => { s.dom d with notice := .none })
        else t = z)

/-- R8, R14, R150, R152, R154, R155: an attempt that sent a frame of a capture buffer ends. A success adds the port to the
frame's delivered set; with no frame left due the replay ends, the port leaves the pending set, and a buffer left by every
port is DONE. Lost arbitration and failure leave the frame due. A replay whose abort waits is aborted then, its frames still
due counted as skipped. A frame of a released buffer is delivered by a success and counted as skipped otherwise. -/
def Obligations.ReplayAttemptsEnd : Prop :=
  ∀ (s : State) (p : Port) (o : TxOutcome) (a : Attempt) (j slot : Nat),
    (s.port p).attempt = some a → a.sending = .replay j slot →
    Completes (exec (.transmissionEnd p o) s) fun t =>
      let z := afterEnd s p a.detached o
      let u := z.port p
      let b := if o = .success then delivered (s.buffer j) p slot else s.buffer j
      let released := if o = .success then b else { b with skipped := counted b.skipped }
      match u.replay, u.abortDue with
      | some i, due =>
        if i = j then
          if o = .success ∧ b.dueSlots p = [] then t = onPort (onBuffer z j (fun _ => left b p)) p (replayOver u)
          else if due = true then t = onPort (onBuffer z j (fun _ => givenUp b p)) p (replayOver u)
          else t = onBuffer z j (fun _ => b)
        else if due = true then
          t = onPort (onBuffer (onBuffer z j (fun _ => released)) i (fun c => givenUp c p)) p (replayOver u)
        else t = onBuffer z j (fun _ => released)
      | none, _ => t = onPort (onBuffer z j (fun _ => released)) p (replayOver u)

/-! ### The sample and the park second -/

namespace Sys2Proof.Claims

/-- A line record. -/
def lineOf (s : State) (l : LineIx) : LineRec := s.lineUnit.lines.get l

/-- An accepted change of a line at a sample: the new sample agrees with the previous one and differs from the accepted
level, which is known (R58). -/
def acceptedChange (s : State) (l : LineIx) (v : Bool) : Bool :=
  (lineOf s l).previous == some v && (lineOf s l).level == some !v

/-- A line makes a line event at a sample (R59, R60). -/
def makesEvent (s : State) (levels : BitVec 16) (l : LineIx) : Bool :=
  let v := levels.getLsbD l.val
  acceptedChange s l v && (lineOf s l).role == .wake &&
    match (lineOf s l).edge with
    | .rising => v
    | .falling => !v
    | .both => true

/-- The lines that make an event at a sample, in line order (R60). -/
def eventLines (s : State) (levels : BitVec 16) : List LineIx := (List.finRange 16).filter (makesEvent s levels)

/-- The record of a line event (R2, R60). -/
def lineEventRecord (s : State) (levels : BitVec 16) (l : LineIx) : FrameRecord where
  source := .line
  ident := BitVec.ofNat 11 l.val
  data := [if levels.getLsbD l.val = true then 1 else 0]
  arrival := s.management.clock
  overrunMark := false
  injected := false

/-- A sample brings about a Park Exit: the mode is PARK and an IGNITION line has an accepted rising change (R61). -/
abbrev ignites (s : State) (levels : BitVec 16) : Prop :=
  s.mode = .park ∧ ∃ l : LineIx, (lineOf s l).role = .ignition ∧ levels.getLsbD l.val = true ∧
    acceptedChange s l true = true

/-- The Line Unit after a sample (R57 to R60). -/
def sampledUnit (s : State) (levels : BitVec 16) : LineUnit :=
  let room := 16 - s.lineUnit.queue.length
  { s.lineUnit with
    sampleLeft := s.lineUnit.period
    queue := s.lineUnit.queue ++ ((eventLines s levels).take room).map (lineEventRecord s levels)
    lines := Tab.ofFn (fun l =>
      let v := levels.getLsbD l.val
      let r := lineOf s l
      { r with
        level := if r.previous = some v then some v else r.level
        previous := some v
        change := r.change || acceptedChange s l v
        overrun := r.overrun || decide (l ∈ (eventLines s levels).drop room) }) }

end Sys2Proof.Claims

/-- R57 to R61, R115 to R117: a sample debounces every line against its previous sample and its accepted level, sets the
change flag at an accepted change, appends the line events in line order while L holds fewer than 16 records, and sets the
overrun flag of each line whose event is lost. An accepted rising change of an IGNITION line in PARK brings about a Park Exit,
which wakes every enabled domain that is ASLEEP or WINDING at class 0; otherwise nothing else changes. THE MODEL'S CHOICE
(assumption log 5) is that the sample falls at its command, whatever is left of the sample interval. -/
def Obligations.SamplesDebounceTheLines : Prop :=
  ∀ (s : State) (levels : BitVec 16),
    Completes (exec (.lineSample levels) s) fun t =>
      t.lineUnit = sampledUnit s levels ∧
      (¬ignites s levels → t = { s with lineUnit := sampledUnit s levels }) ∧
      (ignites s levels →
        t.management = { s.management with mode := .run } ∧
        (∀ d : Domain, (t.dom d).state =
          if (s.dom d).params.enabled = true ∧ (s.dom d).state = .asleep then .queued
          else if (s.dom d).params.enabled = true ∧ (s.dom d).state = .winding then .awake
          else (s.dom d).state) ∧
        t.causes = recorded s.causes
          ((domainsWhere (fun d => (s.dom d).params.enabled &&
              ((s.dom d).state == .asleep || (s.dom d).state == .winding))).map (fun d =>
            { second := s.management.clock, domain := d, cause := .exit, cls := 0, outcome := .admitted,
              buffer := none })) ∧
        (t.port Port.B).active = true ∧ t.account = s.account ∧ t.engine = s.engine ∧
        t.contributions = s.contributions ∧ t.timerUnit = s.timerUnit)

namespace Sys2Proof.Claims

/-- A domain record after a park second (R84). -/
def aged (r : DomainRec) : DomainRec :=
  if r.state = .awake then
    { r with
      idleTimer :=
        match r.idleTimer with
        | .running n => .running (n - 1)
        | i => i
      minAwakeTimer := r.minAwakeTimer.map (fun n => n - 1) }
  else r

/-- The state after a park second, without the Charge Account (R65, R84, R166). -/
def fallen (s : State) : State :=
  { s with
    management := { s.management with clock := s.management.clock + 1, secondLeft := 1000 }
    timerUnit := { s.timerUnit with
      timers := s.timerUnit.timers.map (fun r =>
        if r.running = true then { r with remaining := r.remaining - 1 } else r) }
    domains := Tab.ofFn (fun d => aged (s.dom d)) }

/-- The draw of one second (R122). -/
def drawOf (s : State) : Nat :=
  s.account.baseDraw + ((List.finRange 12).map (fun d =>
    if (s.dom d).state = .powering ∨ (s.dom d).state = .awake ∨ (s.dom d).state = .winding then
      1000 * (s.dom d).params.awakeCurrent
    else 10 * (s.dom d).params.sleepCurrent)).sum

end Sys2Proof.Claims

/-- R65, R84, R122, R124, R125, R127, R134, R166: a park second counts the park clock, every running park timer and the idle
and min-awake timers of the AWAKE domains. In PARK the draw of the second is added to A, the running refill countdowns count,
and the tier becomes the one prescribed, with a shedding at a lower tier. A refill countdown that a park second has brought to
0 expires in PARK: it adds one token, and starts again below the token cap; those of the lower-numbered domains that are due
with it are taken before it, in the order D0 to D11. THE MODEL'S CHOICE is that the expiries of the park second before, where
they are still due, are taken first (assumption log 6), that the BUDGET records of a shedding carry the new second (assumption
log 10), and that the addition and its shedding come before the expiries of the same park second (assumption log 28). That the
park second falls at its command, whatever is left of the second, is assumption log 5. -/
def Obligations.ParkSecondsCountAndCharge : Prop :=
  (∀ s : State,
    Completes (exec .parkSecond s) fun t =>
      let z := settled s
      let a := { z.account with
        spent := min (2 ^ 48 - 1) (z.account.spent + drawOf z)
        tokens := z.account.tokens.map (fun k : TokenRec => { k with countdown := k.countdown.map (fun n => n - 1) }) }
      if s.mode = .run then t = fallen z
      else
        Retiered (fallen z) (s.management.clock + 1)
          { a with tier := tierFor (3600000 * a.budget - a.spent) (3600000 * a.budget) a.upper a.lower } t) ∧
  (∀ (s : State) (d : Domain),
    Completes (exec (.refillExpiry d) s) fun t =>
      if s.mode = .park ∧ (s.account.tokens.get d).countdown = some 0 then
        t = { s with
          account := { s.account with
            tokens := Tab.ofFn (fun e =>
              let k := s.account.tokens.get e
              let q := (s.dom e).params
              if e ≤ d ∧ k.countdown = some 0 then
                { tokens := k.tokens + 1
                  countdown := if k.tokens + 1 < q.tokenCap then some (60 * q.refill) else none }
              else k) } }
      else t = s)
end

