-- ==== Sys2Proof/Laws/Tab.lean ====
section
/-! SUPPORT. Reading a table after each of its operations. -/

namespace Sys2Proof

variable {α β : Type} {n : Nat}

theorem Tab.ext_get {t u : Tab α n} (h : ∀ i, t.get i = u.get i) : t = u := by
  obtain ⟨l, hl⟩ := t
  obtain ⟨m, hm⟩ := u
  have e : l = m := List.ext_getElem (by rw [hl, hm]) (fun i h₁ h₂ => by
    simpa [Tab.get] using h ⟨i, hl ▸ h₁⟩)
  subst e
  rfl

@[simp] theorem Tab.get_set_self (t : Tab α n) (i : Fin n) (x : α) : (t.set i x).get i = x := by
  simp [Tab.get, Tab.set]

theorem Tab.get_set_ne (t : Tab α n) {i k : Fin n} (x : α) (h : k ≠ i) : (t.set i x).get k = t.get k := by
  simp [Tab.get, Tab.set, Fin.val_inj, h.symm]

theorem Tab.get_set (t : Tab α n) (i k : Fin n) (x : α) : (t.set i x).get k = if k = i then x else t.get k := by
  split
  · next h => rw [h, Tab.get_set_self]
  · next h => exact t.get_set_ne x h

@[simp] theorem Tab.get_modify_self (t : Tab α n) (i : Fin n) (f : α → α) :
    (t.modify i f).get i = f (t.get i) := by simp [Tab.modify]

theorem Tab.get_modify_ne (t : Tab α n) {i k : Fin n} (f : α → α) (h : k ≠ i) :
    (t.modify i f).get k = t.get k := t.get_set_ne _ h

theorem Tab.get_modify (t : Tab α n) (i k : Fin n) (f : α → α) :
    (t.modify i f).get k = if k = i then f (t.get k) else t.get k := by
  rw [Tab.modify, Tab.get_set]
  split
  · next h => rw [h]
  · rfl

@[simp] theorem Tab.get_map (f : α → β) (t : Tab α n) (i : Fin n) : (t.map f).get i = f (t.get i) := by
  simp [Tab.get, Tab.map]

@[simp] theorem Tab.get_ofFn (f : Fin n → α) (i : Fin n) : (Tab.ofFn f).get i = f i := by
  simp [Tab.get, Tab.ofFn]

@[simp] theorem Tab.get_replicate (x : α) (i : Fin n) : (Tab.replicate n x).get i = x := by
  simp [Tab.get, Tab.replicate]

@[simp] theorem Tab.set_get (t : Tab α n) (i : Fin n) : t.set i (t.get i) = t :=
  Tab.ext_get (fun k => by rw [Tab.get_set]; split <;> simp_all)

end Sys2Proof
end

