-- ==== Sys2Proof/Laws/State.lean ====
section
/-! SUPPORT. What each named update of the state leaves as it was, field by field, and what it changes. -/

namespace Sys2Proof.Machine

variable (s : State)

/-! ### updPort -/

@[simp] theorem State.updPort_management (p : Port) (f : PortUnit → PortUnit) : (s.updPort p f).management = s.management := rfl
@[simp] theorem State.updPort_pointer (p : Port) (f : PortUnit → PortUnit) : (s.updPort p f).pointer = s.pointer := rfl
@[simp] theorem State.updPort_engine (p : Port) (f : PortUnit → PortUnit) : (s.updPort p f).engine = s.engine := rfl
@[simp] theorem State.updPort_contributions (p : Port) (f : PortUnit → PortUnit) : (s.updPort p f).contributions = s.contributions := rfl
@[simp] theorem State.updPort_lineUnit (p : Port) (f : PortUnit → PortUnit) : (s.updPort p f).lineUnit = s.lineUnit := rfl
@[simp] theorem State.updPort_timerUnit (p : Port) (f : PortUnit → PortUnit) : (s.updPort p f).timerUnit = s.timerUnit := rfl
@[simp] theorem State.updPort_domains (p : Port) (f : PortUnit → PortUnit) : (s.updPort p f).domains = s.domains := rfl
@[simp] theorem State.updPort_slots (p : Port) (f : PortUnit → PortUnit) : (s.updPort p f).slots = s.slots := rfl
@[simp] theorem State.updPort_account (p : Port) (f : PortUnit → PortUnit) : (s.updPort p f).account = s.account := rfl
@[simp] theorem State.updPort_capture (p : Port) (f : PortUnit → PortUnit) : (s.updPort p f).capture = s.capture := rfl
@[simp] theorem State.updPort_causes (p : Port) (f : PortUnit → PortUnit) : (s.updPort p f).causes = s.causes := rfl
@[simp] theorem State.updPort_timeBase (p : Port) (f : PortUnit → PortUnit) : (s.updPort p f).timeBase = s.timeBase := rfl
@[simp] theorem State.updPort_pending (p : Port) (f : PortUnit → PortUnit) : (s.updPort p f).pending = s.pending := rfl

/-! ### updDom -/

@[simp] theorem State.updDom_management (d : Domain) (f : DomainRec → DomainRec) : (s.updDom d f).management = s.management := rfl
@[simp] theorem State.updDom_ports (d : Domain) (f : DomainRec → DomainRec) : (s.updDom d f).ports = s.ports := rfl
@[simp] theorem State.updDom_pointer (d : Domain) (f : DomainRec → DomainRec) : (s.updDom d f).pointer = s.pointer := rfl
@[simp] theorem State.updDom_engine (d : Domain) (f : DomainRec → DomainRec) : (s.updDom d f).engine = s.engine := rfl
@[simp] theorem State.updDom_contributions (d : Domain) (f : DomainRec → DomainRec) : (s.updDom d f).contributions = s.contributions := rfl
@[simp] theorem State.updDom_lineUnit (d : Domain) (f : DomainRec → DomainRec) : (s.updDom d f).lineUnit = s.lineUnit := rfl
@[simp] theorem State.updDom_timerUnit (d : Domain) (f : DomainRec → DomainRec) : (s.updDom d f).timerUnit = s.timerUnit := rfl
@[simp] theorem State.updDom_slots (d : Domain) (f : DomainRec → DomainRec) : (s.updDom d f).slots = s.slots := rfl
@[simp] theorem State.updDom_account (d : Domain) (f : DomainRec → DomainRec) : (s.updDom d f).account = s.account := rfl
@[simp] theorem State.updDom_capture (d : Domain) (f : DomainRec → DomainRec) : (s.updDom d f).capture = s.capture := rfl
@[simp] theorem State.updDom_causes (d : Domain) (f : DomainRec → DomainRec) : (s.updDom d f).causes = s.causes := rfl
@[simp] theorem State.updDom_timeBase (d : Domain) (f : DomainRec → DomainRec) : (s.updDom d f).timeBase = s.timeBase := rfl
@[simp] theorem State.updDom_pending (d : Domain) (f : DomainRec → DomainRec) : (s.updDom d f).pending = s.pending := rfl

/-! ### updBuffer -/

@[simp] theorem State.updBuffer_management (j : Nat) (f : Buffer → Buffer) : (s.updBuffer j f).management = s.management := rfl
@[simp] theorem State.updBuffer_ports (j : Nat) (f : Buffer → Buffer) : (s.updBuffer j f).ports = s.ports := rfl
@[simp] theorem State.updBuffer_pointer (j : Nat) (f : Buffer → Buffer) : (s.updBuffer j f).pointer = s.pointer := rfl
@[simp] theorem State.updBuffer_engine (j : Nat) (f : Buffer → Buffer) : (s.updBuffer j f).engine = s.engine := rfl
@[simp] theorem State.updBuffer_contributions (j : Nat) (f : Buffer → Buffer) : (s.updBuffer j f).contributions = s.contributions := rfl
@[simp] theorem State.updBuffer_lineUnit (j : Nat) (f : Buffer → Buffer) : (s.updBuffer j f).lineUnit = s.lineUnit := rfl
@[simp] theorem State.updBuffer_timerUnit (j : Nat) (f : Buffer → Buffer) : (s.updBuffer j f).timerUnit = s.timerUnit := rfl
@[simp] theorem State.updBuffer_domains (j : Nat) (f : Buffer → Buffer) : (s.updBuffer j f).domains = s.domains := rfl
@[simp] theorem State.updBuffer_slots (j : Nat) (f : Buffer → Buffer) : (s.updBuffer j f).slots = s.slots := rfl
@[simp] theorem State.updBuffer_account (j : Nat) (f : Buffer → Buffer) : (s.updBuffer j f).account = s.account := rfl
@[simp] theorem State.updBuffer_causes (j : Nat) (f : Buffer → Buffer) : (s.updBuffer j f).causes = s.causes := rfl
@[simp] theorem State.updBuffer_timeBase (j : Nat) (f : Buffer → Buffer) : (s.updBuffer j f).timeBase = s.timeBase := rfl
@[simp] theorem State.updBuffer_pending (j : Nat) (f : Buffer → Buffer) : (s.updBuffer j f).pending = s.pending := rfl

/-! ### updSlots -/

@[simp] theorem State.updSlots_management (f : SlotArbiter → SlotArbiter) : (s.updSlots f).management = s.management := rfl
@[simp] theorem State.updSlots_ports (f : SlotArbiter → SlotArbiter) : (s.updSlots f).ports = s.ports := rfl
@[simp] theorem State.updSlots_pointer (f : SlotArbiter → SlotArbiter) : (s.updSlots f).pointer = s.pointer := rfl
@[simp] theorem State.updSlots_engine (f : SlotArbiter → SlotArbiter) : (s.updSlots f).engine = s.engine := rfl
@[simp] theorem State.updSlots_contributions (f : SlotArbiter → SlotArbiter) : (s.updSlots f).contributions = s.contributions := rfl
@[simp] theorem State.updSlots_lineUnit (f : SlotArbiter → SlotArbiter) : (s.updSlots f).lineUnit = s.lineUnit := rfl
@[simp] theorem State.updSlots_timerUnit (f : SlotArbiter → SlotArbiter) : (s.updSlots f).timerUnit = s.timerUnit := rfl
@[simp] theorem State.updSlots_domains (f : SlotArbiter → SlotArbiter) : (s.updSlots f).domains = s.domains := rfl
@[simp] theorem State.updSlots_account (f : SlotArbiter → SlotArbiter) : (s.updSlots f).account = s.account := rfl
@[simp] theorem State.updSlots_capture (f : SlotArbiter → SlotArbiter) : (s.updSlots f).capture = s.capture := rfl
@[simp] theorem State.updSlots_causes (f : SlotArbiter → SlotArbiter) : (s.updSlots f).causes = s.causes := rfl
@[simp] theorem State.updSlots_timeBase (f : SlotArbiter → SlotArbiter) : (s.updSlots f).timeBase = s.timeBase := rfl
@[simp] theorem State.updSlots_pending (f : SlotArbiter → SlotArbiter) : (s.updSlots f).pending = s.pending := rfl

/-! ### updAccount -/

@[simp] theorem State.updAccount_management (f : Account → Account) : (s.updAccount f).management = s.management := rfl
@[simp] theorem State.updAccount_ports (f : Account → Account) : (s.updAccount f).ports = s.ports := rfl
@[simp] theorem State.updAccount_pointer (f : Account → Account) : (s.updAccount f).pointer = s.pointer := rfl
@[simp] theorem State.updAccount_engine (f : Account → Account) : (s.updAccount f).engine = s.engine := rfl
@[simp] theorem State.updAccount_contributions (f : Account → Account) : (s.updAccount f).contributions = s.contributions := rfl
@[simp] theorem State.updAccount_lineUnit (f : Account → Account) : (s.updAccount f).lineUnit = s.lineUnit := rfl
@[simp] theorem State.updAccount_timerUnit (f : Account → Account) : (s.updAccount f).timerUnit = s.timerUnit := rfl
@[simp] theorem State.updAccount_domains (f : Account → Account) : (s.updAccount f).domains = s.domains := rfl
@[simp] theorem State.updAccount_slots (f : Account → Account) : (s.updAccount f).slots = s.slots := rfl
@[simp] theorem State.updAccount_capture (f : Account → Account) : (s.updAccount f).capture = s.capture := rfl
@[simp] theorem State.updAccount_causes (f : Account → Account) : (s.updAccount f).causes = s.causes := rfl
@[simp] theorem State.updAccount_timeBase (f : Account → Account) : (s.updAccount f).timeBase = s.timeBase := rfl
@[simp] theorem State.updAccount_pending (f : Account → Account) : (s.updAccount f).pending = s.pending := rfl

/-! ### updTokens -/

@[simp] theorem State.updTokens_management (d : Domain) (f : TokenRec → TokenRec) : (s.updTokens d f).management = s.management := rfl
@[simp] theorem State.updTokens_ports (d : Domain) (f : TokenRec → TokenRec) : (s.updTokens d f).ports = s.ports := rfl
@[simp] theorem State.updTokens_pointer (d : Domain) (f : TokenRec → TokenRec) : (s.updTokens d f).pointer = s.pointer := rfl
@[simp] theorem State.updTokens_engine (d : Domain) (f : TokenRec → TokenRec) : (s.updTokens d f).engine = s.engine := rfl
@[simp] theorem State.updTokens_contributions (d : Domain) (f : TokenRec → TokenRec) : (s.updTokens d f).contributions = s.contributions := rfl
@[simp] theorem State.updTokens_lineUnit (d : Domain) (f : TokenRec → TokenRec) : (s.updTokens d f).lineUnit = s.lineUnit := rfl
@[simp] theorem State.updTokens_timerUnit (d : Domain) (f : TokenRec → TokenRec) : (s.updTokens d f).timerUnit = s.timerUnit := rfl
@[simp] theorem State.updTokens_domains (d : Domain) (f : TokenRec → TokenRec) : (s.updTokens d f).domains = s.domains := rfl
@[simp] theorem State.updTokens_slots (d : Domain) (f : TokenRec → TokenRec) : (s.updTokens d f).slots = s.slots := rfl
@[simp] theorem State.updTokens_capture (d : Domain) (f : TokenRec → TokenRec) : (s.updTokens d f).capture = s.capture := rfl
@[simp] theorem State.updTokens_causes (d : Domain) (f : TokenRec → TokenRec) : (s.updTokens d f).causes = s.causes := rfl
@[simp] theorem State.updTokens_timeBase (d : Domain) (f : TokenRec → TokenRec) : (s.updTokens d f).timeBase = s.timeBase := rfl
@[simp] theorem State.updTokens_pending (d : Domain) (f : TokenRec → TokenRec) : (s.updTokens d f).pending = s.pending := rfl

/-! ### writeCause -/

@[simp] theorem State.writeCause_management (d : Domain) (c : Cause) (k : WakeClass) (o : WakeOutcome) (j : Option Nat) : (s.writeCause d c k o j).management = s.management := rfl
@[simp] theorem State.writeCause_ports (d : Domain) (c : Cause) (k : WakeClass) (o : WakeOutcome) (j : Option Nat) : (s.writeCause d c k o j).ports = s.ports := rfl
@[simp] theorem State.writeCause_pointer (d : Domain) (c : Cause) (k : WakeClass) (o : WakeOutcome) (j : Option Nat) : (s.writeCause d c k o j).pointer = s.pointer := rfl
@[simp] theorem State.writeCause_engine (d : Domain) (c : Cause) (k : WakeClass) (o : WakeOutcome) (j : Option Nat) : (s.writeCause d c k o j).engine = s.engine := rfl
@[simp] theorem State.writeCause_contributions (d : Domain) (c : Cause) (k : WakeClass) (o : WakeOutcome) (j : Option Nat) : (s.writeCause d c k o j).contributions = s.contributions := rfl
@[simp] theorem State.writeCause_lineUnit (d : Domain) (c : Cause) (k : WakeClass) (o : WakeOutcome) (j : Option Nat) : (s.writeCause d c k o j).lineUnit = s.lineUnit := rfl
@[simp] theorem State.writeCause_timerUnit (d : Domain) (c : Cause) (k : WakeClass) (o : WakeOutcome) (j : Option Nat) : (s.writeCause d c k o j).timerUnit = s.timerUnit := rfl
@[simp] theorem State.writeCause_domains (d : Domain) (c : Cause) (k : WakeClass) (o : WakeOutcome) (j : Option Nat) : (s.writeCause d c k o j).domains = s.domains := rfl
@[simp] theorem State.writeCause_slots (d : Domain) (c : Cause) (k : WakeClass) (o : WakeOutcome) (j : Option Nat) : (s.writeCause d c k o j).slots = s.slots := rfl
@[simp] theorem State.writeCause_account (d : Domain) (c : Cause) (k : WakeClass) (o : WakeOutcome) (j : Option Nat) : (s.writeCause d c k o j).account = s.account := rfl
@[simp] theorem State.writeCause_capture (d : Domain) (c : Cause) (k : WakeClass) (o : WakeOutcome) (j : Option Nat) : (s.writeCause d c k o j).capture = s.capture := rfl
@[simp] theorem State.writeCause_timeBase (d : Domain) (c : Cause) (k : WakeClass) (o : WakeOutcome) (j : Option Nat) : (s.writeCause d c k o j).timeBase = s.timeBase := rfl
@[simp] theorem State.writeCause_pending (d : Domain) (c : Cause) (k : WakeClass) (o : WakeOutcome) (j : Option Nat) : (s.writeCause d c k o j).pending = s.pending := rfl

/-! ### updEngine -/

@[simp] theorem State.updEngine_management (f : Engine → Engine) : (s.updEngine f).management = s.management := rfl
@[simp] theorem State.updEngine_ports (f : Engine → Engine) : (s.updEngine f).ports = s.ports := rfl
@[simp] theorem State.updEngine_pointer (f : Engine → Engine) : (s.updEngine f).pointer = s.pointer := rfl
@[simp] theorem State.updEngine_contributions (f : Engine → Engine) : (s.updEngine f).contributions = s.contributions := rfl
@[simp] theorem State.updEngine_lineUnit (f : Engine → Engine) : (s.updEngine f).lineUnit = s.lineUnit := rfl
@[simp] theorem State.updEngine_timerUnit (f : Engine → Engine) : (s.updEngine f).timerUnit = s.timerUnit := rfl
@[simp] theorem State.updEngine_domains (f : Engine → Engine) : (s.updEngine f).domains = s.domains := rfl
@[simp] theorem State.updEngine_slots (f : Engine → Engine) : (s.updEngine f).slots = s.slots := rfl
@[simp] theorem State.updEngine_account (f : Engine → Engine) : (s.updEngine f).account = s.account := rfl
@[simp] theorem State.updEngine_capture (f : Engine → Engine) : (s.updEngine f).capture = s.capture := rfl
@[simp] theorem State.updEngine_causes (f : Engine → Engine) : (s.updEngine f).causes = s.causes := rfl
@[simp] theorem State.updEngine_timeBase (f : Engine → Engine) : (s.updEngine f).timeBase = s.timeBase := rfl
@[simp] theorem State.updEngine_pending (f : Engine → Engine) : (s.updEngine f).pending = s.pending := rfl

/-! ### setContributions -/

@[simp] theorem State.setContributions_management (g : GroupIx) (l : List Contribution) : (s.setContributions g l).management = s.management := rfl
@[simp] theorem State.setContributions_ports (g : GroupIx) (l : List Contribution) : (s.setContributions g l).ports = s.ports := rfl
@[simp] theorem State.setContributions_pointer (g : GroupIx) (l : List Contribution) : (s.setContributions g l).pointer = s.pointer := rfl
@[simp] theorem State.setContributions_engine (g : GroupIx) (l : List Contribution) : (s.setContributions g l).engine = s.engine := rfl
@[simp] theorem State.setContributions_lineUnit (g : GroupIx) (l : List Contribution) : (s.setContributions g l).lineUnit = s.lineUnit := rfl
@[simp] theorem State.setContributions_timerUnit (g : GroupIx) (l : List Contribution) : (s.setContributions g l).timerUnit = s.timerUnit := rfl
@[simp] theorem State.setContributions_domains (g : GroupIx) (l : List Contribution) : (s.setContributions g l).domains = s.domains := rfl
@[simp] theorem State.setContributions_slots (g : GroupIx) (l : List Contribution) : (s.setContributions g l).slots = s.slots := rfl
@[simp] theorem State.setContributions_account (g : GroupIx) (l : List Contribution) : (s.setContributions g l).account = s.account := rfl
@[simp] theorem State.setContributions_capture (g : GroupIx) (l : List Contribution) : (s.setContributions g l).capture = s.capture := rfl
@[simp] theorem State.setContributions_causes (g : GroupIx) (l : List Contribution) : (s.setContributions g l).causes = s.causes := rfl
@[simp] theorem State.setContributions_timeBase (g : GroupIx) (l : List Contribution) : (s.setContributions g l).timeBase = s.timeBase := rfl
@[simp] theorem State.setContributions_pending (g : GroupIx) (l : List Contribution) : (s.setContributions g l).pending = s.pending := rfl

/-! ### updLine -/

@[simp] theorem State.updLine_management (l : LineIx) (f : LineRec → LineRec) : (s.updLine l f).management = s.management := rfl
@[simp] theorem State.updLine_ports (l : LineIx) (f : LineRec → LineRec) : (s.updLine l f).ports = s.ports := rfl
@[simp] theorem State.updLine_pointer (l : LineIx) (f : LineRec → LineRec) : (s.updLine l f).pointer = s.pointer := rfl
@[simp] theorem State.updLine_engine (l : LineIx) (f : LineRec → LineRec) : (s.updLine l f).engine = s.engine := rfl
@[simp] theorem State.updLine_contributions (l : LineIx) (f : LineRec → LineRec) : (s.updLine l f).contributions = s.contributions := rfl
@[simp] theorem State.updLine_timerUnit (l : LineIx) (f : LineRec → LineRec) : (s.updLine l f).timerUnit = s.timerUnit := rfl
@[simp] theorem State.updLine_domains (l : LineIx) (f : LineRec → LineRec) : (s.updLine l f).domains = s.domains := rfl
@[simp] theorem State.updLine_slots (l : LineIx) (f : LineRec → LineRec) : (s.updLine l f).slots = s.slots := rfl
@[simp] theorem State.updLine_account (l : LineIx) (f : LineRec → LineRec) : (s.updLine l f).account = s.account := rfl
@[simp] theorem State.updLine_capture (l : LineIx) (f : LineRec → LineRec) : (s.updLine l f).capture = s.capture := rfl
@[simp] theorem State.updLine_causes (l : LineIx) (f : LineRec → LineRec) : (s.updLine l f).causes = s.causes := rfl
@[simp] theorem State.updLine_timeBase (l : LineIx) (f : LineRec → LineRec) : (s.updLine l f).timeBase = s.timeBase := rfl
@[simp] theorem State.updLine_pending (l : LineIx) (f : LineRec → LineRec) : (s.updLine l f).pending = s.pending := rfl

/-! ### updTimer -/

@[simp] theorem State.updTimer_management (t : TimerIx) (f : TimerRec → TimerRec) : (s.updTimer t f).management = s.management := rfl
@[simp] theorem State.updTimer_ports (t : TimerIx) (f : TimerRec → TimerRec) : (s.updTimer t f).ports = s.ports := rfl
@[simp] theorem State.updTimer_pointer (t : TimerIx) (f : TimerRec → TimerRec) : (s.updTimer t f).pointer = s.pointer := rfl
@[simp] theorem State.updTimer_engine (t : TimerIx) (f : TimerRec → TimerRec) : (s.updTimer t f).engine = s.engine := rfl
@[simp] theorem State.updTimer_contributions (t : TimerIx) (f : TimerRec → TimerRec) : (s.updTimer t f).contributions = s.contributions := rfl
@[simp] theorem State.updTimer_lineUnit (t : TimerIx) (f : TimerRec → TimerRec) : (s.updTimer t f).lineUnit = s.lineUnit := rfl
@[simp] theorem State.updTimer_domains (t : TimerIx) (f : TimerRec → TimerRec) : (s.updTimer t f).domains = s.domains := rfl
@[simp] theorem State.updTimer_slots (t : TimerIx) (f : TimerRec → TimerRec) : (s.updTimer t f).slots = s.slots := rfl
@[simp] theorem State.updTimer_account (t : TimerIx) (f : TimerRec → TimerRec) : (s.updTimer t f).account = s.account := rfl
@[simp] theorem State.updTimer_capture (t : TimerIx) (f : TimerRec → TimerRec) : (s.updTimer t f).capture = s.capture := rfl
@[simp] theorem State.updTimer_causes (t : TimerIx) (f : TimerRec → TimerRec) : (s.updTimer t f).causes = s.causes := rfl
@[simp] theorem State.updTimer_timeBase (t : TimerIx) (f : TimerRec → TimerRec) : (s.updTimer t f).timeBase = s.timeBase := rfl
@[simp] theorem State.updTimer_pending (t : TimerIx) (f : TimerRec → TimerRec) : (s.updTimer t f).pending = s.pending := rfl

/-! ### setPrepared -/

@[simp] theorem State.setPrepared_ports (b : Bool) : (s.setPrepared b).ports = s.ports := rfl
@[simp] theorem State.setPrepared_pointer (b : Bool) : (s.setPrepared b).pointer = s.pointer := rfl
@[simp] theorem State.setPrepared_engine (b : Bool) : (s.setPrepared b).engine = s.engine := rfl
@[simp] theorem State.setPrepared_contributions (b : Bool) : (s.setPrepared b).contributions = s.contributions := rfl
@[simp] theorem State.setPrepared_lineUnit (b : Bool) : (s.setPrepared b).lineUnit = s.lineUnit := rfl
@[simp] theorem State.setPrepared_timerUnit (b : Bool) : (s.setPrepared b).timerUnit = s.timerUnit := rfl
@[simp] theorem State.setPrepared_domains (b : Bool) : (s.setPrepared b).domains = s.domains := rfl
@[simp] theorem State.setPrepared_slots (b : Bool) : (s.setPrepared b).slots = s.slots := rfl
@[simp] theorem State.setPrepared_account (b : Bool) : (s.setPrepared b).account = s.account := rfl
@[simp] theorem State.setPrepared_capture (b : Bool) : (s.setPrepared b).capture = s.capture := rfl
@[simp] theorem State.setPrepared_causes (b : Bool) : (s.setPrepared b).causes = s.causes := rfl
@[simp] theorem State.setPrepared_timeBase (b : Bool) : (s.setPrepared b).timeBase = s.timeBase := rfl
@[simp] theorem State.setPrepared_pending (b : Bool) : (s.setPrepared b).pending = s.pending := rfl

/-! ### respond -/

@[simp] theorem State.respond_management (code tag : Byte) (a : Answer) : (s.respond code tag a).management = s.management := rfl
@[simp] theorem State.respond_pointer (code tag : Byte) (a : Answer) : (s.respond code tag a).pointer = s.pointer := rfl
@[simp] theorem State.respond_engine (code tag : Byte) (a : Answer) : (s.respond code tag a).engine = s.engine := rfl
@[simp] theorem State.respond_contributions (code tag : Byte) (a : Answer) : (s.respond code tag a).contributions = s.contributions := rfl
@[simp] theorem State.respond_lineUnit (code tag : Byte) (a : Answer) : (s.respond code tag a).lineUnit = s.lineUnit := rfl
@[simp] theorem State.respond_timerUnit (code tag : Byte) (a : Answer) : (s.respond code tag a).timerUnit = s.timerUnit := rfl
@[simp] theorem State.respond_domains (code tag : Byte) (a : Answer) : (s.respond code tag a).domains = s.domains := rfl
@[simp] theorem State.respond_slots (code tag : Byte) (a : Answer) : (s.respond code tag a).slots = s.slots := rfl
@[simp] theorem State.respond_account (code tag : Byte) (a : Answer) : (s.respond code tag a).account = s.account := rfl
@[simp] theorem State.respond_capture (code tag : Byte) (a : Answer) : (s.respond code tag a).capture = s.capture := rfl
@[simp] theorem State.respond_causes (code tag : Byte) (a : Answer) : (s.respond code tag a).causes = s.causes := rfl
@[simp] theorem State.respond_timeBase (code tag : Byte) (a : Answer) : (s.respond code tag a).timeBase = s.timeBase := rfl
@[simp] theorem State.respond_pending (code tag : Byte) (a : Answer) : (s.respond code tag a).pending = s.pending := rfl

/-! ### withPending -/

@[simp] theorem State.withPending_management (cs : List Instr) : (s.withPending cs).management = s.management := rfl
@[simp] theorem State.withPending_ports (cs : List Instr) : (s.withPending cs).ports = s.ports := rfl
@[simp] theorem State.withPending_pointer (cs : List Instr) : (s.withPending cs).pointer = s.pointer := rfl
@[simp] theorem State.withPending_engine (cs : List Instr) : (s.withPending cs).engine = s.engine := rfl
@[simp] theorem State.withPending_contributions (cs : List Instr) : (s.withPending cs).contributions = s.contributions := rfl
@[simp] theorem State.withPending_lineUnit (cs : List Instr) : (s.withPending cs).lineUnit = s.lineUnit := rfl
@[simp] theorem State.withPending_timerUnit (cs : List Instr) : (s.withPending cs).timerUnit = s.timerUnit := rfl
@[simp] theorem State.withPending_domains (cs : List Instr) : (s.withPending cs).domains = s.domains := rfl
@[simp] theorem State.withPending_slots (cs : List Instr) : (s.withPending cs).slots = s.slots := rfl
@[simp] theorem State.withPending_account (cs : List Instr) : (s.withPending cs).account = s.account := rfl
@[simp] theorem State.withPending_capture (cs : List Instr) : (s.withPending cs).capture = s.capture := rfl
@[simp] theorem State.withPending_causes (cs : List Instr) : (s.withPending cs).causes = s.causes := rfl
@[simp] theorem State.withPending_timeBase (cs : List Instr) : (s.withPending cs).timeBase = s.timeBase := rfl

/-! ### What the updates change, and the views of the state -/

@[simp] theorem State.port_updPort_self (p : Port) (f : PortUnit → PortUnit) :
    (s.updPort p f).port p = f (s.port p) := by simp [State.port, State.updPort]

theorem State.port_updPort_ne {p q : Port} (f : PortUnit → PortUnit) (h : q ≠ p) :
    (s.updPort p f).port q = s.port q := Tab.get_modify_ne _ f h

theorem State.port_updPort (p q : Port) (f : PortUnit → PortUnit) :
    (s.updPort p f).port q = if q = p then f (s.port q) else s.port q := Tab.get_modify _ _ _ _

@[simp] theorem State.dom_updDom_self (d : Domain) (f : DomainRec → DomainRec) :
    (s.updDom d f).dom d = f (s.dom d) := by simp [State.dom, State.updDom]

theorem State.dom_updDom_ne {d e : Domain} (f : DomainRec → DomainRec) (h : e ≠ d) :
    (s.updDom d f).dom e = s.dom e := Tab.get_modify_ne _ f h

theorem State.dom_updDom (d e : Domain) (f : DomainRec → DomainRec) :
    (s.updDom d f).dom e = if e = d then f (s.dom e) else s.dom e := Tab.get_modify _ _ _ _

@[simp] theorem State.tokens_updTokens_self (d : Domain) (f : TokenRec → TokenRec) :
    (s.updTokens d f).tokens d = f (s.tokens d) := by
  simp [State.tokens, State.updTokens, State.updAccount]

theorem State.tokens_updTokens_ne {d e : Domain} (f : TokenRec → TokenRec) (h : e ≠ d) :
    (s.updTokens d f).tokens e = s.tokens e := Tab.get_modify_ne _ f h

@[simp] theorem State.timer_updTimer_self (t : TimerIx) (f : TimerRec → TimerRec) :
    (s.updTimer t f).timer t = f (s.timer t) := by simp [State.timer, State.updTimer]

theorem State.timer_updTimer_ne {t u : TimerIx} (f : TimerRec → TimerRec) (h : u ≠ t) :
    (s.updTimer t f).timer u = s.timer u := Tab.get_modify_ne _ f h

@[simp] theorem State.updSlots_slots (f : SlotArbiter → SlotArbiter) : (s.updSlots f).slots = f s.slots := rfl

@[simp] theorem State.updAccount_account (f : Account → Account) : (s.updAccount f).account = f s.account := rfl

@[simp] theorem State.updEngine_engine (f : Engine → Engine) : (s.updEngine f).engine = f s.engine := rfl

@[simp] theorem State.withPending_pending (cs : List Instr) : (s.withPending cs).pending = cs := rfl

@[simp] theorem State.setPrepared_prepared (b : Bool) : (s.setPrepared b).management.prepared = b := rfl

@[simp] theorem State.length_buffers_updBuffer (j : Nat) (f : Buffer → Buffer) :
    (s.updBuffer j f).capture.buffers.length = s.capture.buffers.length := by simp [State.updBuffer]

theorem State.buffer_updBuffer_self {j : Nat} (f : Buffer → Buffer) (h : j < s.capture.buffers.length) :
    (s.updBuffer j f).buffer j = f (s.buffer j) := by
  simp [State.buffer, State.updBuffer, List.getElem?_eq_getElem h]

theorem State.buffer_updBuffer_ne {j k : Nat} (f : Buffer → Buffer) (h : k ≠ j) :
    (s.updBuffer j f).buffer k = s.buffer k := by
  simp [State.buffer, State.updBuffer, Ne.symm h]

@[simp] theorem State.dom_updPort (p : Port) (f : PortUnit → PortUnit) (d : Domain) : (s.updPort p f).dom d = s.dom d := rfl
@[simp] theorem State.portOf_updPort (p : Port) (f : PortUnit → PortUnit) (d : Domain) : (s.updPort p f).portOf d = s.portOf d := rfl
@[simp] theorem State.mode_updPort (p : Port) (f : PortUnit → PortUnit) : (s.updPort p f).mode = s.mode := rfl
@[simp] theorem State.clock_updPort (p : Port) (f : PortUnit → PortUnit) : (s.updPort p f).clock = s.clock := rfl
@[simp] theorem State.buffer_updPort (p : Port) (f : PortUnit → PortUnit) (j : Nat) : (s.updPort p f).buffer j = s.buffer j := rfl
@[simp] theorem State.tokens_updPort (p : Port) (f : PortUnit → PortUnit) (d : Domain) : (s.updPort p f).tokens d = s.tokens d := rfl
@[simp] theorem State.timer_updPort (p : Port) (f : PortUnit → PortUnit) (t : TimerIx) : (s.updPort p f).timer t = s.timer t := rfl
@[simp] theorem State.responseId_updPort (p : Port) (f : PortUnit → PortUnit) : (s.updPort p f).responseId = s.responseId := rfl
@[simp] theorem State.requestId_updPort (p : Port) (f : PortUnit → PortUnit) : (s.updPort p f).requestId = s.requestId := rfl
@[simp] theorem State.causeId_updPort (p : Port) (f : PortUnit → PortUnit) : (s.updPort p f).causeId = s.causeId := rfl
@[simp] theorem State.port_updDom (d : Domain) (f : DomainRec → DomainRec) (p : Port) : (s.updDom d f).port p = s.port p := rfl
@[simp] theorem State.mode_updDom (d : Domain) (f : DomainRec → DomainRec) : (s.updDom d f).mode = s.mode := rfl
@[simp] theorem State.clock_updDom (d : Domain) (f : DomainRec → DomainRec) : (s.updDom d f).clock = s.clock := rfl
@[simp] theorem State.buffer_updDom (d : Domain) (f : DomainRec → DomainRec) (j : Nat) : (s.updDom d f).buffer j = s.buffer j := rfl
@[simp] theorem State.tokens_updDom (d : Domain) (f : DomainRec → DomainRec) (e : Domain) : (s.updDom d f).tokens e = s.tokens e := rfl
@[simp] theorem State.timer_updDom (d : Domain) (f : DomainRec → DomainRec) (t : TimerIx) : (s.updDom d f).timer t = s.timer t := rfl
@[simp] theorem State.responseId_updDom (d : Domain) (f : DomainRec → DomainRec) : (s.updDom d f).responseId = s.responseId := rfl
@[simp] theorem State.requestId_updDom (d : Domain) (f : DomainRec → DomainRec) : (s.updDom d f).requestId = s.requestId := rfl
@[simp] theorem State.causeId_updDom (d : Domain) (f : DomainRec → DomainRec) : (s.updDom d f).causeId = s.causeId := rfl
@[simp] theorem State.port_updBuffer (j : Nat) (f : Buffer → Buffer) (p : Port) : (s.updBuffer j f).port p = s.port p := rfl
@[simp] theorem State.dom_updBuffer (j : Nat) (f : Buffer → Buffer) (d : Domain) : (s.updBuffer j f).dom d = s.dom d := rfl
@[simp] theorem State.portOf_updBuffer (j : Nat) (f : Buffer → Buffer) (d : Domain) : (s.updBuffer j f).portOf d = s.portOf d := rfl
@[simp] theorem State.mode_updBuffer (j : Nat) (f : Buffer → Buffer) : (s.updBuffer j f).mode = s.mode := rfl
@[simp] theorem State.clock_updBuffer (j : Nat) (f : Buffer → Buffer) : (s.updBuffer j f).clock = s.clock := rfl
@[simp] theorem State.tokens_updBuffer (j : Nat) (f : Buffer → Buffer) (d : Domain) : (s.updBuffer j f).tokens d = s.tokens d := rfl
@[simp] theorem State.timer_updBuffer (j : Nat) (f : Buffer → Buffer) (t : TimerIx) : (s.updBuffer j f).timer t = s.timer t := rfl
@[simp] theorem State.responseId_updBuffer (j : Nat) (f : Buffer → Buffer) : (s.updBuffer j f).responseId = s.responseId := rfl
@[simp] theorem State.requestId_updBuffer (j : Nat) (f : Buffer → Buffer) : (s.updBuffer j f).requestId = s.requestId := rfl
@[simp] theorem State.causeId_updBuffer (j : Nat) (f : Buffer → Buffer) : (s.updBuffer j f).causeId = s.causeId := rfl
@[simp] theorem State.port_updSlots (f : SlotArbiter → SlotArbiter) (p : Port) : (s.updSlots f).port p = s.port p := rfl
@[simp] theorem State.dom_updSlots (f : SlotArbiter → SlotArbiter) (d : Domain) : (s.updSlots f).dom d = s.dom d := rfl
@[simp] theorem State.portOf_updSlots (f : SlotArbiter → SlotArbiter) (d : Domain) : (s.updSlots f).portOf d = s.portOf d := rfl
@[simp] theorem State.mode_updSlots (f : SlotArbiter → SlotArbiter) : (s.updSlots f).mode = s.mode := rfl
@[simp] theorem State.clock_updSlots (f : SlotArbiter → SlotArbiter) : (s.updSlots f).clock = s.clock := rfl
@[simp] theorem State.buffer_updSlots (f : SlotArbiter → SlotArbiter) (j : Nat) : (s.updSlots f).buffer j = s.buffer j := rfl
@[simp] theorem State.tokens_updSlots (f : SlotArbiter → SlotArbiter) (d : Domain) : (s.updSlots f).tokens d = s.tokens d := rfl
@[simp] theorem State.timer_updSlots (f : SlotArbiter → SlotArbiter) (t : TimerIx) : (s.updSlots f).timer t = s.timer t := rfl
@[simp] theorem State.responseId_updSlots (f : SlotArbiter → SlotArbiter) : (s.updSlots f).responseId = s.responseId := rfl
@[simp] theorem State.requestId_updSlots (f : SlotArbiter → SlotArbiter) : (s.updSlots f).requestId = s.requestId := rfl
@[simp] theorem State.causeId_updSlots (f : SlotArbiter → SlotArbiter) : (s.updSlots f).causeId = s.causeId := rfl
@[simp] theorem State.port_updAccount (f : Account → Account) (p : Port) : (s.updAccount f).port p = s.port p := rfl
@[simp] theorem State.dom_updAccount (f : Account → Account) (d : Domain) : (s.updAccount f).dom d = s.dom d := rfl
@[simp] theorem State.portOf_updAccount (f : Account → Account) (d : Domain) : (s.updAccount f).portOf d = s.portOf d := rfl
@[simp] theorem State.mode_updAccount (f : Account → Account) : (s.updAccount f).mode = s.mode := rfl
@[simp] theorem State.clock_updAccount (f : Account → Account) : (s.updAccount f).clock = s.clock := rfl
@[simp] theorem State.buffer_updAccount (f : Account → Account) (j : Nat) : (s.updAccount f).buffer j = s.buffer j := rfl
@[simp] theorem State.timer_updAccount (f : Account → Account) (t : TimerIx) : (s.updAccount f).timer t = s.timer t := rfl
@[simp] theorem State.responseId_updAccount (f : Account → Account) : (s.updAccount f).responseId = s.responseId := rfl
@[simp] theorem State.requestId_updAccount (f : Account → Account) : (s.updAccount f).requestId = s.requestId := rfl
@[simp] theorem State.causeId_updAccount (f : Account → Account) : (s.updAccount f).causeId = s.causeId := rfl
@[simp] theorem State.port_updTokens (d : Domain) (f : TokenRec → TokenRec) (p : Port) : (s.updTokens d f).port p = s.port p := rfl
@[simp] theorem State.dom_updTokens (d : Domain) (f : TokenRec → TokenRec) (e : Domain) : (s.updTokens d f).dom e = s.dom e := rfl
@[simp] theorem State.portOf_updTokens (d : Domain) (f : TokenRec → TokenRec) (e : Domain) : (s.updTokens d f).portOf e = s.portOf e := rfl
@[simp] theorem State.mode_updTokens (d : Domain) (f : TokenRec → TokenRec) : (s.updTokens d f).mode = s.mode := rfl
@[simp] theorem State.clock_updTokens (d : Domain) (f : TokenRec → TokenRec) : (s.updTokens d f).clock = s.clock := rfl
@[simp] theorem State.buffer_updTokens (d : Domain) (f : TokenRec → TokenRec) (j : Nat) : (s.updTokens d f).buffer j = s.buffer j := rfl
@[simp] theorem State.timer_updTokens (d : Domain) (f : TokenRec → TokenRec) (t : TimerIx) : (s.updTokens d f).timer t = s.timer t := rfl
@[simp] theorem State.responseId_updTokens (d : Domain) (f : TokenRec → TokenRec) : (s.updTokens d f).responseId = s.responseId := rfl
@[simp] theorem State.requestId_updTokens (d : Domain) (f : TokenRec → TokenRec) : (s.updTokens d f).requestId = s.requestId := rfl
@[simp] theorem State.causeId_updTokens (d : Domain) (f : TokenRec → TokenRec) : (s.updTokens d f).causeId = s.causeId := rfl
@[simp] theorem State.port_writeCause (d : Domain) (c : Cause) (k : WakeClass) (o : WakeOutcome) (j : Option Nat) (p : Port) : (s.writeCause d c k o j).port p = s.port p := rfl
@[simp] theorem State.dom_writeCause (d : Domain) (c : Cause) (k : WakeClass) (o : WakeOutcome) (j : Option Nat) (e : Domain) : (s.writeCause d c k o j).dom e = s.dom e := rfl
@[simp] theorem State.portOf_writeCause (d : Domain) (c : Cause) (k : WakeClass) (o : WakeOutcome) (j : Option Nat) (e : Domain) : (s.writeCause d c k o j).portOf e = s.portOf e := rfl
@[simp] theorem State.mode_writeCause (d : Domain) (c : Cause) (k : WakeClass) (o : WakeOutcome) (j : Option Nat) : (s.writeCause d c k o j).mode = s.mode := rfl
@[simp] theorem State.clock_writeCause (d : Domain) (c : Cause) (k : WakeClass) (o : WakeOutcome) (j : Option Nat) : (s.writeCause d c k o j).clock = s.clock := rfl
@[simp] theorem State.buffer_writeCause (d : Domain) (c : Cause) (k : WakeClass) (o : WakeOutcome) (j : Option Nat) (i : Nat) : (s.writeCause d c k o j).buffer i = s.buffer i := rfl
@[simp] theorem State.tokens_writeCause (d : Domain) (c : Cause) (k : WakeClass) (o : WakeOutcome) (j : Option Nat) (e : Domain) : (s.writeCause d c k o j).tokens e = s.tokens e := rfl
@[simp] theorem State.timer_writeCause (d : Domain) (c : Cause) (k : WakeClass) (o : WakeOutcome) (j : Option Nat) (t : TimerIx) : (s.writeCause d c k o j).timer t = s.timer t := rfl
@[simp] theorem State.responseId_writeCause (d : Domain) (c : Cause) (k : WakeClass) (o : WakeOutcome) (j : Option Nat) : (s.writeCause d c k o j).responseId = s.responseId := rfl
@[simp] theorem State.requestId_writeCause (d : Domain) (c : Cause) (k : WakeClass) (o : WakeOutcome) (j : Option Nat) : (s.writeCause d c k o j).requestId = s.requestId := rfl
@[simp] theorem State.causeId_writeCause (d : Domain) (c : Cause) (k : WakeClass) (o : WakeOutcome) (j : Option Nat) : (s.writeCause d c k o j).causeId = s.causeId := rfl
@[simp] theorem State.port_updEngine (f : Engine → Engine) (p : Port) : (s.updEngine f).port p = s.port p := rfl
@[simp] theorem State.dom_updEngine (f : Engine → Engine) (d : Domain) : (s.updEngine f).dom d = s.dom d := rfl
@[simp] theorem State.portOf_updEngine (f : Engine → Engine) (d : Domain) : (s.updEngine f).portOf d = s.portOf d := rfl
@[simp] theorem State.mode_updEngine (f : Engine → Engine) : (s.updEngine f).mode = s.mode := rfl
@[simp] theorem State.clock_updEngine (f : Engine → Engine) : (s.updEngine f).clock = s.clock := rfl
@[simp] theorem State.buffer_updEngine (f : Engine → Engine) (j : Nat) : (s.updEngine f).buffer j = s.buffer j := rfl
@[simp] theorem State.tokens_updEngine (f : Engine → Engine) (d : Domain) : (s.updEngine f).tokens d = s.tokens d := rfl
@[simp] theorem State.timer_updEngine (f : Engine → Engine) (t : TimerIx) : (s.updEngine f).timer t = s.timer t := rfl
@[simp] theorem State.responseId_updEngine (f : Engine → Engine) : (s.updEngine f).responseId = s.responseId := rfl
@[simp] theorem State.requestId_updEngine (f : Engine → Engine) : (s.updEngine f).requestId = s.requestId := rfl
@[simp] theorem State.causeId_updEngine (f : Engine → Engine) : (s.updEngine f).causeId = s.causeId := rfl
@[simp] theorem State.port_setContributions (g : GroupIx) (l : List Contribution) (p : Port) : (s.setContributions g l).port p = s.port p := rfl
@[simp] theorem State.dom_setContributions (g : GroupIx) (l : List Contribution) (d : Domain) : (s.setContributions g l).dom d = s.dom d := rfl
@[simp] theorem State.portOf_setContributions (g : GroupIx) (l : List Contribution) (d : Domain) : (s.setContributions g l).portOf d = s.portOf d := rfl
@[simp] theorem State.mode_setContributions (g : GroupIx) (l : List Contribution) : (s.setContributions g l).mode = s.mode := rfl
@[simp] theorem State.clock_setContributions (g : GroupIx) (l : List Contribution) : (s.setContributions g l).clock = s.clock := rfl
@[simp] theorem State.buffer_setContributions (g : GroupIx) (l : List Contribution) (j : Nat) : (s.setContributions g l).buffer j = s.buffer j := rfl
@[simp] theorem State.tokens_setContributions (g : GroupIx) (l : List Contribution) (d : Domain) : (s.setContributions g l).tokens d = s.tokens d := rfl
@[simp] theorem State.timer_setContributions (g : GroupIx) (l : List Contribution) (t : TimerIx) : (s.setContributions g l).timer t = s.timer t := rfl
@[simp] theorem State.responseId_setContributions (g : GroupIx) (l : List Contribution) : (s.setContributions g l).responseId = s.responseId := rfl
@[simp] theorem State.requestId_setContributions (g : GroupIx) (l : List Contribution) : (s.setContributions g l).requestId = s.requestId := rfl
@[simp] theorem State.causeId_setContributions (g : GroupIx) (l : List Contribution) : (s.setContributions g l).causeId = s.causeId := rfl
@[simp] theorem State.port_updLine (l : LineIx) (f : LineRec → LineRec) (p : Port) : (s.updLine l f).port p = s.port p := rfl
@[simp] theorem State.dom_updLine (l : LineIx) (f : LineRec → LineRec) (d : Domain) : (s.updLine l f).dom d = s.dom d := rfl
@[simp] theorem State.portOf_updLine (l : LineIx) (f : LineRec → LineRec) (d : Domain) : (s.updLine l f).portOf d = s.portOf d := rfl
@[simp] theorem State.mode_updLine (l : LineIx) (f : LineRec → LineRec) : (s.updLine l f).mode = s.mode := rfl
@[simp] theorem State.clock_updLine (l : LineIx) (f : LineRec → LineRec) : (s.updLine l f).clock = s.clock := rfl
@[simp] theorem State.buffer_updLine (l : LineIx) (f : LineRec → LineRec) (j : Nat) : (s.updLine l f).buffer j = s.buffer j := rfl
@[simp] theorem State.tokens_updLine (l : LineIx) (f : LineRec → LineRec) (d : Domain) : (s.updLine l f).tokens d = s.tokens d := rfl
@[simp] theorem State.timer_updLine (l : LineIx) (f : LineRec → LineRec) (t : TimerIx) : (s.updLine l f).timer t = s.timer t := rfl
@[simp] theorem State.responseId_updLine (l : LineIx) (f : LineRec → LineRec) : (s.updLine l f).responseId = s.responseId := rfl
@[simp] theorem State.requestId_updLine (l : LineIx) (f : LineRec → LineRec) : (s.updLine l f).requestId = s.requestId := rfl
@[simp] theorem State.causeId_updLine (l : LineIx) (f : LineRec → LineRec) : (s.updLine l f).causeId = s.causeId := rfl
@[simp] theorem State.port_updTimer (t : TimerIx) (f : TimerRec → TimerRec) (p : Port) : (s.updTimer t f).port p = s.port p := rfl
@[simp] theorem State.dom_updTimer (t : TimerIx) (f : TimerRec → TimerRec) (d : Domain) : (s.updTimer t f).dom d = s.dom d := rfl
@[simp] theorem State.portOf_updTimer (t : TimerIx) (f : TimerRec → TimerRec) (d : Domain) : (s.updTimer t f).portOf d = s.portOf d := rfl
@[simp] theorem State.mode_updTimer (t : TimerIx) (f : TimerRec → TimerRec) : (s.updTimer t f).mode = s.mode := rfl
@[simp] theorem State.clock_updTimer (t : TimerIx) (f : TimerRec → TimerRec) : (s.updTimer t f).clock = s.clock := rfl
@[simp] theorem State.buffer_updTimer (t : TimerIx) (f : TimerRec → TimerRec) (j : Nat) : (s.updTimer t f).buffer j = s.buffer j := rfl
@[simp] theorem State.tokens_updTimer (t : TimerIx) (f : TimerRec → TimerRec) (d : Domain) : (s.updTimer t f).tokens d = s.tokens d := rfl
@[simp] theorem State.responseId_updTimer (t : TimerIx) (f : TimerRec → TimerRec) : (s.updTimer t f).responseId = s.responseId := rfl
@[simp] theorem State.requestId_updTimer (t : TimerIx) (f : TimerRec → TimerRec) : (s.updTimer t f).requestId = s.requestId := rfl
@[simp] theorem State.causeId_updTimer (t : TimerIx) (f : TimerRec → TimerRec) : (s.updTimer t f).causeId = s.causeId := rfl
@[simp] theorem State.port_setPrepared (b : Bool) (p : Port) : (s.setPrepared b).port p = s.port p := rfl
@[simp] theorem State.dom_setPrepared (b : Bool) (d : Domain) : (s.setPrepared b).dom d = s.dom d := rfl
@[simp] theorem State.portOf_setPrepared (b : Bool) (d : Domain) : (s.setPrepared b).portOf d = s.portOf d := rfl
@[simp] theorem State.mode_setPrepared (b : Bool) : (s.setPrepared b).mode = s.mode := rfl
@[simp] theorem State.clock_setPrepared (b : Bool) : (s.setPrepared b).clock = s.clock := rfl
@[simp] theorem State.buffer_setPrepared (b : Bool) (j : Nat) : (s.setPrepared b).buffer j = s.buffer j := rfl
@[simp] theorem State.tokens_setPrepared (b : Bool) (d : Domain) : (s.setPrepared b).tokens d = s.tokens d := rfl
@[simp] theorem State.timer_setPrepared (b : Bool) (t : TimerIx) : (s.setPrepared b).timer t = s.timer t := rfl
@[simp] theorem State.responseId_setPrepared (b : Bool) : (s.setPrepared b).responseId = s.responseId := rfl
@[simp] theorem State.requestId_setPrepared (b : Bool) : (s.setPrepared b).requestId = s.requestId := rfl
@[simp] theorem State.causeId_setPrepared (b : Bool) : (s.setPrepared b).causeId = s.causeId := rfl
@[simp] theorem State.dom_respond (code tag : Byte) (a : Answer) (d : Domain) : (s.respond code tag a).dom d = s.dom d := rfl
@[simp] theorem State.portOf_respond (code tag : Byte) (a : Answer) (d : Domain) : (s.respond code tag a).portOf d = s.portOf d := rfl
@[simp] theorem State.mode_respond (code tag : Byte) (a : Answer) : (s.respond code tag a).mode = s.mode := rfl
@[simp] theorem State.clock_respond (code tag : Byte) (a : Answer) : (s.respond code tag a).clock = s.clock := rfl
@[simp] theorem State.buffer_respond (code tag : Byte) (a : Answer) (j : Nat) : (s.respond code tag a).buffer j = s.buffer j := rfl
@[simp] theorem State.tokens_respond (code tag : Byte) (a : Answer) (d : Domain) : (s.respond code tag a).tokens d = s.tokens d := rfl
@[simp] theorem State.timer_respond (code tag : Byte) (a : Answer) (t : TimerIx) : (s.respond code tag a).timer t = s.timer t := rfl
@[simp] theorem State.responseId_respond (code tag : Byte) (a : Answer) : (s.respond code tag a).responseId = s.responseId := rfl
@[simp] theorem State.requestId_respond (code tag : Byte) (a : Answer) : (s.respond code tag a).requestId = s.requestId := rfl
@[simp] theorem State.causeId_respond (code tag : Byte) (a : Answer) : (s.respond code tag a).causeId = s.causeId := rfl
@[simp] theorem State.port_withPending (cs : List Instr) (p : Port) : (s.withPending cs).port p = s.port p := rfl
@[simp] theorem State.dom_withPending (cs : List Instr) (d : Domain) : (s.withPending cs).dom d = s.dom d := rfl
@[simp] theorem State.portOf_withPending (cs : List Instr) (d : Domain) : (s.withPending cs).portOf d = s.portOf d := rfl
@[simp] theorem State.mode_withPending (cs : List Instr) : (s.withPending cs).mode = s.mode := rfl
@[simp] theorem State.clock_withPending (cs : List Instr) : (s.withPending cs).clock = s.clock := rfl
@[simp] theorem State.buffer_withPending (cs : List Instr) (j : Nat) : (s.withPending cs).buffer j = s.buffer j := rfl
@[simp] theorem State.tokens_withPending (cs : List Instr) (d : Domain) : (s.withPending cs).tokens d = s.tokens d := rfl
@[simp] theorem State.timer_withPending (cs : List Instr) (t : TimerIx) : (s.withPending cs).timer t = s.timer t := rfl
@[simp] theorem State.responseId_withPending (cs : List Instr) : (s.withPending cs).responseId = s.responseId := rfl
@[simp] theorem State.requestId_withPending (cs : List Instr) : (s.withPending cs).requestId = s.requestId := rfl
@[simp] theorem State.causeId_withPending (cs : List Instr) : (s.withPending cs).causeId = s.causeId := rfl

end Sys2Proof.Machine
end

