-- ==== Sys2Proof/Laws/Frames.lean ====
section
/-!
SUPPORT. The frame of each shared operation: the blocks that it leaves as they were. `State.fixed` gathers the blocks that no
operation on domains, slots, charge or captures touches.
-/

namespace Sys2Proof.Machine

variable (s : State)

/-- The blocks that no operation on domains, slots, charge and captures touches: the Management Unit, the Match Arbiter,
the Match Engine, the Coincidence Unit, the Line Unit, the Timer Unit, the time base and the waiting commands. -/
structure Fixed where
  management    : Management
  pointer       : Fin 10
  engine        : Engine
  contributions : Tab (List Contribution) 8
  lineUnit      : LineUnit
  timerUnit     : TimerUnit
  timeBase      : Nat
  pending       : List Instr

/-- The fixed blocks of a state. -/
def State.fixed (s : State) : Fixed where
  management := s.management
  pointer := s.pointer
  engine := s.engine
  contributions := s.contributions
  lineUnit := s.lineUnit
  timerUnit := s.timerUnit
  timeBase := s.timeBase
  pending := s.pending

theorem State.management_of_fixed {s t : State} (h : t.fixed = s.fixed) : t.management = s.management := congrArg Fixed.management h

theorem State.pointer_of_fixed {s t : State} (h : t.fixed = s.fixed) : t.pointer = s.pointer := congrArg Fixed.pointer h

theorem State.engine_of_fixed {s t : State} (h : t.fixed = s.fixed) : t.engine = s.engine := congrArg Fixed.engine h

theorem State.contributions_of_fixed {s t : State} (h : t.fixed = s.fixed) : t.contributions = s.contributions := congrArg Fixed.contributions h

theorem State.lineUnit_of_fixed {s t : State} (h : t.fixed = s.fixed) : t.lineUnit = s.lineUnit := congrArg Fixed.lineUnit h

theorem State.timerUnit_of_fixed {s t : State} (h : t.fixed = s.fixed) : t.timerUnit = s.timerUnit := congrArg Fixed.timerUnit h

theorem State.timeBase_of_fixed {s t : State} (h : t.fixed = s.fixed) : t.timeBase = s.timeBase := congrArg Fixed.timeBase h

theorem State.pending_of_fixed {s t : State} (h : t.fixed = s.fixed) : t.pending = s.pending := congrArg Fixed.pending h

theorem State.mode_of_fixed {s t : State} (h : t.fixed = s.fixed) : t.mode = s.mode :=
  congrArg (fun x => x.management.mode) h

@[simp] theorem State.updPort_fixed (p : Port) (f : PortUnit → PortUnit) : (s.updPort p f).fixed = s.fixed := rfl
@[simp] theorem State.updDom_fixed (d : Domain) (f : DomainRec → DomainRec) : (s.updDom d f).fixed = s.fixed := rfl
@[simp] theorem State.updBuffer_fixed (j : Nat) (f : Buffer → Buffer) : (s.updBuffer j f).fixed = s.fixed := rfl
@[simp] theorem State.updSlots_fixed (f : SlotArbiter → SlotArbiter) : (s.updSlots f).fixed = s.fixed := rfl
@[simp] theorem State.updAccount_fixed (f : Account → Account) : (s.updAccount f).fixed = s.fixed := rfl
@[simp] theorem State.updTokens_fixed (d : Domain) (f : TokenRec → TokenRec) : (s.updTokens d f).fixed = s.fixed := rfl
@[simp] theorem State.respond_fixed (code tag : Byte) (a : Answer) : (s.respond code tag a).fixed = s.fixed := rfl
@[simp] theorem State.writeCause_fixed (d : Domain) (c : Cause) (k : WakeClass) (o : WakeOutcome) (j : Option Nat) : (s.writeCause d c k o j).fixed = s.fixed := rfl
@[simp] theorem State.withCapture_fixed (c : CaptureStore) : ({ s with capture := c } : State).fixed = s.fixed := rfl

/-- A fold of operations that each keep a view of the state keeps it. -/
theorem State.foldl_keeps {α β : Type} (view : State → β) (f : State → α → State)
    (h : ∀ s a, view (f s a) = view s) (l : List α) (s : State) : view (l.foldl f s) = view s := by
  induction l generalizing s with
  | nil => rfl
  | cons a l ih => rw [List.foldl_cons, ih, h]

/-- An operation for each domain keeps what the operation for one domain keeps. -/
theorem State.eachDomain_keeps {β : Type} (view : State → β) (f : State → Domain → State)
    (h : ∀ s d, view (f s d) = view s) (s : State) : view (s.eachDomain f) = view s :=
  State.foldl_keeps view f h _ s

/-- A conditional keeps what both of its branches keep. -/
theorem State.ite_keeps {β : Type} (view : State → β) {c : Prop} [Decidable c] {s t u : State}
    (ht : view t = view s) (hu : view u = view s) : view (if c then t else u) = view s := by
  split
  · exact ht
  · exact hu

/-! ### abortReplay -/

@[simp] theorem State.abortReplay_fixed (p : Port) : (s.abortReplay p).fixed = s.fixed := by
  unfold State.abortReplay; (repeat' split) <;> simp
@[simp] theorem State.abortReplay_domains (p : Port) : (s.abortReplay p).domains = s.domains := by
  unfold State.abortReplay; (repeat' split) <;> simp
@[simp] theorem State.abortReplay_slots (p : Port) : (s.abortReplay p).slots = s.slots := by
  unfold State.abortReplay; (repeat' split) <;> simp
@[simp] theorem State.abortReplay_account (p : Port) : (s.abortReplay p).account = s.account := by
  unfold State.abortReplay; (repeat' split) <;> simp
@[simp] theorem State.abortReplay_causes (p : Port) : (s.abortReplay p).causes = s.causes := by
  unfold State.abortReplay; (repeat' split) <;> simp

/-! ### portListen -/

@[simp] theorem State.portListen_fixed (p : Port) : (s.portListen p).fixed = s.fixed := by
  unfold State.portListen; dsimp only; (repeat' split) <;> simp
@[simp] theorem State.portListen_domains (p : Port) : (s.portListen p).domains = s.domains := by
  unfold State.portListen; dsimp only; (repeat' split) <;> simp
@[simp] theorem State.portListen_slots (p : Port) : (s.portListen p).slots = s.slots := by
  unfold State.portListen; dsimp only; (repeat' split) <;> simp
@[simp] theorem State.portListen_account (p : Port) : (s.portListen p).account = s.account := by
  unfold State.portListen; dsimp only; (repeat' split) <;> simp
@[simp] theorem State.portListen_causes (p : Port) : (s.portListen p).causes = s.causes := by
  unfold State.portListen; dsimp only; (repeat' split) <;> simp

/-! ### rederive -/

@[simp] theorem State.rederive_fixed (p : Port) : (s.rederive p).fixed = s.fixed := by
  unfold State.rederive; (repeat' split) <;> simp
@[simp] theorem State.rederive_domains (p : Port) : (s.rederive p).domains = s.domains := by
  unfold State.rederive; (repeat' split) <;> simp
@[simp] theorem State.rederive_slots (p : Port) : (s.rederive p).slots = s.slots := by
  unfold State.rederive; (repeat' split) <;> simp
@[simp] theorem State.rederive_account (p : Port) : (s.rederive p).account = s.account := by
  unfold State.rederive; (repeat' split) <;> simp
@[simp] theorem State.rederive_causes (p : Port) : (s.rederive p).causes = s.causes := by
  unfold State.rederive; (repeat' split) <;> simp

/-! ### releaseSlot -/

@[simp] theorem State.releaseSlot_fixed (d : Domain) : (s.releaseSlot d).fixed = s.fixed := by
  rfl
@[simp] theorem State.releaseSlot_ports (d : Domain) : (s.releaseSlot d).ports = s.ports := by
  rfl
@[simp] theorem State.releaseSlot_account (d : Domain) : (s.releaseSlot d).account = s.account := by
  rfl
@[simp] theorem State.releaseSlot_capture (d : Domain) : (s.releaseSlot d).capture = s.capture := by
  rfl
@[simp] theorem State.releaseSlot_causes (d : Domain) : (s.releaseSlot d).causes = s.causes := by
  rfl

/-! ### slotReady -/

@[simp] theorem State.slotReady_fixed (d : Domain) : (s.slotReady d).fixed = s.fixed := by
  unfold State.slotReady; (repeat' split) <;> simp
@[simp] theorem State.slotReady_ports (d : Domain) : (s.slotReady d).ports = s.ports := by
  unfold State.slotReady; (repeat' split) <;> simp
@[simp] theorem State.slotReady_account (d : Domain) : (s.slotReady d).account = s.account := by
  unfold State.slotReady; (repeat' split) <;> simp
@[simp] theorem State.slotReady_capture (d : Domain) : (s.slotReady d).capture = s.capture := by
  unfold State.slotReady; (repeat' split) <;> simp
@[simp] theorem State.slotReady_causes (d : Domain) : (s.slotReady d).causes = s.causes := by
  unfold State.slotReady; (repeat' split) <;> simp

/-! ### offerSleep -/

@[simp] theorem State.offerSleep_fixed (d : Domain) : (s.offerSleep d).fixed = s.fixed := by
  unfold State.offerSleep; (repeat' split) <;> simp
@[simp] theorem State.offerSleep_slots (d : Domain) : (s.offerSleep d).slots = s.slots := by
  unfold State.offerSleep; (repeat' split) <;> simp
@[simp] theorem State.offerSleep_account (d : Domain) : (s.offerSleep d).account = s.account := by
  unfold State.offerSleep; (repeat' split) <;> simp
@[simp] theorem State.offerSleep_capture (d : Domain) : (s.offerSleep d).capture = s.capture := by
  unfold State.offerSleep; (repeat' split) <;> simp
@[simp] theorem State.offerSleep_causes (d : Domain) : (s.offerSleep d).causes = s.causes := by
  unfold State.offerSleep; (repeat' split) <;> simp

/-! ### offerCancel -/

@[simp] theorem State.offerCancel_fixed (d : Domain) : (s.offerCancel d).fixed = s.fixed := by
  unfold State.offerCancel; (repeat' split) <;> simp
@[simp] theorem State.offerCancel_slots (d : Domain) : (s.offerCancel d).slots = s.slots := by
  unfold State.offerCancel; (repeat' split) <;> simp
@[simp] theorem State.offerCancel_account (d : Domain) : (s.offerCancel d).account = s.account := by
  unfold State.offerCancel; (repeat' split) <;> simp
@[simp] theorem State.offerCancel_capture (d : Domain) : (s.offerCancel d).capture = s.capture := by
  unfold State.offerCancel; (repeat' split) <;> simp
@[simp] theorem State.offerCancel_causes (d : Domain) : (s.offerCancel d).causes = s.causes := by
  unfold State.offerCancel; (repeat' split) <;> simp

/-! ### settleNotice -/

@[simp] theorem State.settleNotice_fixed (d : Domain) (k : NoticeKind) (b : Bool) : (s.settleNotice d k b).fixed = s.fixed := by
  unfold State.settleNotice; (repeat' split) <;> simp
@[simp] theorem State.settleNotice_slots (d : Domain) (k : NoticeKind) (b : Bool) : (s.settleNotice d k b).slots = s.slots := by
  unfold State.settleNotice; (repeat' split) <;> simp
@[simp] theorem State.settleNotice_account (d : Domain) (k : NoticeKind) (b : Bool) : (s.settleNotice d k b).account = s.account := by
  unfold State.settleNotice; (repeat' split) <;> simp
@[simp] theorem State.settleNotice_capture (d : Domain) (k : NoticeKind) (b : Bool) : (s.settleNotice d k b).capture = s.capture := by
  unfold State.settleNotice; (repeat' split) <;> simp
@[simp] theorem State.settleNotice_causes (d : Domain) (k : NoticeKind) (b : Bool) : (s.settleNotice d k b).causes = s.causes := by
  unfold State.settleNotice; (repeat' split) <;> simp

/-! ### withdrawNotice -/

@[simp] theorem State.withdrawNotice_fixed (d : Domain) : (s.withdrawNotice d).fixed = s.fixed := by
  unfold State.withdrawNotice; dsimp only; (repeat' split) <;> simp
@[simp] theorem State.withdrawNotice_slots (d : Domain) : (s.withdrawNotice d).slots = s.slots := by
  unfold State.withdrawNotice; dsimp only; (repeat' split) <;> simp
@[simp] theorem State.withdrawNotice_account (d : Domain) : (s.withdrawNotice d).account = s.account := by
  unfold State.withdrawNotice; dsimp only; (repeat' split) <;> simp
@[simp] theorem State.withdrawNotice_capture (d : Domain) : (s.withdrawNotice d).capture = s.capture := by
  unfold State.withdrawNotice; dsimp only; (repeat' split) <;> simp
@[simp] theorem State.withdrawNotice_causes (d : Domain) : (s.withdrawNotice d).causes = s.causes := by
  unfold State.withdrawNotice; dsimp only; (repeat' split) <;> simp

/-! ### enterState -/

@[simp] theorem State.enterState_fixed (d : Domain) (st : DomainState) : (s.enterState d st).fixed = s.fixed := by
  simp [State.enterState]
@[simp] theorem State.enterState_slots (d : Domain) (st : DomainState) : (s.enterState d st).slots = s.slots := by
  simp [State.enterState]
@[simp] theorem State.enterState_account (d : Domain) (st : DomainState) : (s.enterState d st).account = s.account := by
  simp [State.enterState]
@[simp] theorem State.enterState_causes (d : Domain) (st : DomainState) : (s.enterState d st).causes = s.causes := by
  simp [State.enterState]

/-! ### domainDown -/

@[simp] theorem State.domainDown_fixed (d : Domain) : (s.domainDown d).fixed = s.fixed := by
  rfl
@[simp] theorem State.domainDown_ports (d : Domain) : (s.domainDown d).ports = s.ports := by
  rfl
@[simp] theorem State.domainDown_domains (d : Domain) : (s.domainDown d).domains = s.domains := by
  rfl
@[simp] theorem State.domainDown_slots (d : Domain) : (s.domainDown d).slots = s.slots := by
  rfl
@[simp] theorem State.domainDown_account (d : Domain) : (s.domainDown d).account = s.account := by
  rfl
@[simp] theorem State.domainDown_causes (d : Domain) : (s.domainDown d).causes = s.causes := by
  rfl

/-! ### switchOff -/

@[simp] theorem State.switchOff_fixed (d : Domain) (st : DomainState) (f : DomainRec → DomainRec) : (s.switchOff d st f).fixed = s.fixed := by
  simp [State.switchOff]
@[simp] theorem State.switchOff_account (d : Domain) (st : DomainState) (f : DomainRec → DomainRec) : (s.switchOff d st f).account = s.account := by
  simp [State.switchOff]
@[simp] theorem State.switchOff_causes (d : Domain) (st : DomainState) (f : DomainRec → DomainRec) : (s.switchOff d st f).causes = s.causes := by
  simp [State.switchOff]

/-! ### enterAwake -/

@[simp] theorem State.enterAwake_fixed (d : Domain) : (s.enterAwake d).fixed = s.fixed := by
  simp [State.enterAwake]
@[simp] theorem State.enterAwake_slots (d : Domain) : (s.enterAwake d).slots = s.slots := by
  simp [State.enterAwake]
@[simp] theorem State.enterAwake_account (d : Domain) : (s.enterAwake d).account = s.account := by
  simp [State.enterAwake]
@[simp] theorem State.enterAwake_causes (d : Domain) : (s.enterAwake d).causes = s.causes := by
  simp [State.enterAwake]

/-! ### becomeReady -/

@[simp] theorem State.becomeReady_fixed (d : Domain) : (s.becomeReady d).fixed = s.fixed := by
  simp [State.becomeReady]
@[simp] theorem State.becomeReady_account (d : Domain) : (s.becomeReady d).account = s.account := by
  simp [State.becomeReady]
@[simp] theorem State.becomeReady_causes (d : Domain) : (s.becomeReady d).causes = s.causes := by
  simp [State.becomeReady]

/-! ### noticeAtWinding -/

@[simp] theorem State.noticeAtWinding_fixed (d : Domain) : (s.noticeAtWinding d).fixed = s.fixed := by
  unfold State.noticeAtWinding; (repeat' split) <;> simp
@[simp] theorem State.noticeAtWinding_slots (d : Domain) : (s.noticeAtWinding d).slots = s.slots := by
  unfold State.noticeAtWinding; (repeat' split) <;> simp
@[simp] theorem State.noticeAtWinding_account (d : Domain) : (s.noticeAtWinding d).account = s.account := by
  unfold State.noticeAtWinding; (repeat' split) <;> simp
@[simp] theorem State.noticeAtWinding_capture (d : Domain) : (s.noticeAtWinding d).capture = s.capture := by
  unfold State.noticeAtWinding; (repeat' split) <;> simp
@[simp] theorem State.noticeAtWinding_causes (d : Domain) : (s.noticeAtWinding d).causes = s.causes := by
  unfold State.noticeAtWinding; (repeat' split) <;> simp

/-! ### enterWinding -/

@[simp] theorem State.enterWinding_fixed (d : Domain) (r : SleepReason) : (s.enterWinding d r).fixed = s.fixed := by
  simp [State.enterWinding]
@[simp] theorem State.enterWinding_slots (d : Domain) (r : SleepReason) : (s.enterWinding d r).slots = s.slots := by
  simp [State.enterWinding]
@[simp] theorem State.enterWinding_account (d : Domain) (r : SleepReason) : (s.enterWinding d r).account = s.account := by
  simp [State.enterWinding]
@[simp] theorem State.enterWinding_causes (d : Domain) (r : SleepReason) : (s.enterWinding d r).causes = s.causes := by
  simp [State.enterWinding]

/-! ### noticeAtReturn -/

@[simp] theorem State.noticeAtReturn_fixed (d : Domain) : (s.noticeAtReturn d).fixed = s.fixed := by
  unfold State.noticeAtReturn; (repeat' split) <;> simp
@[simp] theorem State.noticeAtReturn_slots (d : Domain) : (s.noticeAtReturn d).slots = s.slots := by
  unfold State.noticeAtReturn; (repeat' split) <;> simp
@[simp] theorem State.noticeAtReturn_account (d : Domain) : (s.noticeAtReturn d).account = s.account := by
  unfold State.noticeAtReturn; (repeat' split) <;> simp
@[simp] theorem State.noticeAtReturn_capture (d : Domain) : (s.noticeAtReturn d).capture = s.capture := by
  unfold State.noticeAtReturn; (repeat' split) <;> simp
@[simp] theorem State.noticeAtReturn_causes (d : Domain) : (s.noticeAtReturn d).causes = s.causes := by
  unfold State.noticeAtReturn; (repeat' split) <;> simp

/-! ### returnAwake -/

@[simp] theorem State.returnAwake_fixed (d : Domain) (c : WakeClass) : (s.returnAwake d c).fixed = s.fixed := by
  simp [State.returnAwake]
@[simp] theorem State.returnAwake_slots (d : Domain) (c : WakeClass) : (s.returnAwake d c).slots = s.slots := by
  simp [State.returnAwake]
@[simp] theorem State.returnAwake_account (d : Domain) (c : WakeClass) : (s.returnAwake d c).account = s.account := by
  simp [State.returnAwake]
@[simp] theorem State.returnAwake_causes (d : Domain) (c : WakeClass) : (s.returnAwake d c).causes = s.causes := by
  simp [State.returnAwake]

/-! ### windingAsleep -/

@[simp] theorem State.windingAsleep_fixed (d : Domain) : (s.windingAsleep d).fixed = s.fixed := by
  simp [State.windingAsleep]
@[simp] theorem State.windingAsleep_account (d : Domain) : (s.windingAsleep d).account = s.account := by
  simp [State.windingAsleep]
@[simp] theorem State.windingAsleep_causes (d : Domain) : (s.windingAsleep d).causes = s.causes := by
  simp [State.windingAsleep]

/-! ### disable -/

@[simp] theorem State.disable_fixed (d : Domain) : (s.disable d).fixed = s.fixed := by
  simp [State.disable]
@[simp] theorem State.disable_account (d : Domain) : (s.disable d).account = s.account := by
  simp [State.disable]
@[simp] theorem State.disable_causes (d : Domain) : (s.disable d).causes = s.causes := by
  simp [State.disable]

/-! ### admitted -/

@[simp] theorem State.admitted_fixed (d : Domain) (c : WakeClass) : (s.admitted d c).fixed = s.fixed := by
  unfold State.admitted; (repeat' split) <;> simp
@[simp] theorem State.admitted_account (d : Domain) (c : WakeClass) : (s.admitted d c).account = s.account := by
  unfold State.admitted; (repeat' split) <;> simp
@[simp] theorem State.admitted_causes (d : Domain) (c : WakeClass) : (s.admitted d c).causes = s.causes := by
  unfold State.admitted; (repeat' split) <;> simp

/-! ### merged -/

@[simp] theorem State.merged_fixed (d : Domain) (c : WakeClass) : (s.merged d c).fixed = s.fixed := by
  unfold State.merged; dsimp only; (repeat' split) <;> simp
@[simp] theorem State.merged_ports (d : Domain) (c : WakeClass) : (s.merged d c).ports = s.ports := by
  unfold State.merged; dsimp only; (repeat' split) <;> simp
@[simp] theorem State.merged_account (d : Domain) (c : WakeClass) : (s.merged d c).account = s.account := by
  unfold State.merged; dsimp only; (repeat' split) <;> simp
@[simp] theorem State.merged_capture (d : Domain) (c : WakeClass) : (s.merged d c).capture = s.capture := by
  unfold State.merged; dsimp only; (repeat' split) <;> simp
@[simp] theorem State.merged_causes (d : Domain) (c : WakeClass) : (s.merged d c).causes = s.causes := by
  unfold State.merged; dsimp only; (repeat' split) <;> simp

/-! ### ignoreFrame -/

@[simp] theorem State.ignoreFrame_fixed (d : Domain) : (s.ignoreFrame d).fixed = s.fixed := by
  rfl
@[simp] theorem State.ignoreFrame_ports (d : Domain) : (s.ignoreFrame d).ports = s.ports := by
  rfl
@[simp] theorem State.ignoreFrame_slots (d : Domain) : (s.ignoreFrame d).slots = s.slots := by
  rfl
@[simp] theorem State.ignoreFrame_account (d : Domain) : (s.ignoreFrame d).account = s.account := by
  rfl
@[simp] theorem State.ignoreFrame_capture (d : Domain) : (s.ignoreFrame d).capture = s.capture := by
  rfl
@[simp] theorem State.ignoreFrame_causes (d : Domain) : (s.ignoreFrame d).causes = s.causes := by
  rfl

/-! ### faultFrame -/

@[simp] theorem State.faultFrame_fixed (d : Domain) : (s.faultFrame d).fixed = s.fixed := by
  unfold State.faultFrame; (repeat' split) <;> simp
@[simp] theorem State.faultFrame_account (d : Domain) : (s.faultFrame d).account = s.account := by
  unfold State.faultFrame; (repeat' split) <;> simp
@[simp] theorem State.faultFrame_causes (d : Domain) : (s.faultFrame d).causes = s.causes := by
  unfold State.faultFrame; (repeat' split) <;> simp

/-! ### announceFrame -/

@[simp] theorem State.announceFrame_fixed (d : Domain) : (s.announceFrame d).fixed = s.fixed := by
  unfold State.announceFrame; (repeat' split) <;> simp
@[simp] theorem State.announceFrame_account (d : Domain) : (s.announceFrame d).account = s.account := by
  unfold State.announceFrame; (repeat' split) <;> simp
@[simp] theorem State.announceFrame_causes (d : Domain) : (s.announceFrame d).causes = s.causes := by
  unfold State.announceFrame; (repeat' split) <;> simp

/-! ### sleepReadyFrame -/

@[simp] theorem State.sleepReadyFrame_fixed (d : Domain) : (s.sleepReadyFrame d).fixed = s.fixed := by
  unfold State.sleepReadyFrame; (repeat' split) <;> simp
@[simp] theorem State.sleepReadyFrame_account (d : Domain) : (s.sleepReadyFrame d).account = s.account := by
  unfold State.sleepReadyFrame; (repeat' split) <;> simp
@[simp] theorem State.sleepReadyFrame_causes (d : Domain) : (s.sleepReadyFrame d).causes = s.causes := by
  unfold State.sleepReadyFrame; (repeat' split) <;> simp

/-! ### activityFrame -/

@[simp] theorem State.activityFrame_fixed (d : Domain) (i : Ident) : (s.activityFrame d i).fixed = s.fixed := by
  unfold State.activityFrame; (repeat' split) <;> simp
@[simp] theorem State.activityFrame_ports (d : Domain) (i : Ident) : (s.activityFrame d i).ports = s.ports := by
  unfold State.activityFrame; (repeat' split) <;> simp
@[simp] theorem State.activityFrame_slots (d : Domain) (i : Ident) : (s.activityFrame d i).slots = s.slots := by
  unfold State.activityFrame; (repeat' split) <;> simp
@[simp] theorem State.activityFrame_account (d : Domain) (i : Ident) : (s.activityFrame d i).account = s.account := by
  unfold State.activityFrame; (repeat' split) <;> simp
@[simp] theorem State.activityFrame_capture (d : Domain) (i : Ident) : (s.activityFrame d i).capture = s.capture := by
  unfold State.activityFrame; (repeat' split) <;> simp
@[simp] theorem State.activityFrame_causes (d : Domain) (i : Ident) : (s.activityFrame d i).causes = s.causes := by
  unfold State.activityFrame; (repeat' split) <;> simp

/-! ### recognise -/

@[simp] theorem State.recognise_fixed (d : Domain) (i : Ident) : (s.recognise d i).fixed = s.fixed := by
  unfold State.recognise; dsimp only; (repeat' split) <;> simp
@[simp] theorem State.recognise_account (d : Domain) (i : Ident) : (s.recognise d i).account = s.account := by
  unfold State.recognise; dsimp only; (repeat' split) <;> simp
@[simp] theorem State.recognise_causes (d : Domain) (i : Ident) : (s.recognise d i).causes = s.causes := by
  unfold State.recognise; dsimp only; (repeat' split) <;> simp

/-! ### offerToDomains -/

@[simp] theorem State.offerToDomains_fixed (p : Port) (i : Ident) : (s.offerToDomains p i).fixed = s.fixed :=
  State.eachDomain_keeps (fun t => t.fixed) _ (fun t e => by split <;> simp) s
@[simp] theorem State.offerToDomains_account (p : Port) (i : Ident) : (s.offerToDomains p i).account = s.account :=
  State.eachDomain_keeps (fun t => t.account) _ (fun t e => by split <;> simp) s
@[simp] theorem State.offerToDomains_causes (p : Port) (i : Ident) : (s.offerToDomains p i).causes = s.causes :=
  State.eachDomain_keeps (fun t => t.causes) _ (fun t e => by split <;> simp) s

/-! ### windOnBlocked -/

@[simp] theorem State.windOnBlocked_fixed (p : Port) : (s.windOnBlocked p).fixed = s.fixed :=
  State.eachDomain_keeps (fun t => t.fixed) _ (fun t e => by split <;> simp) s
@[simp] theorem State.windOnBlocked_ports (p : Port) : (s.windOnBlocked p).ports = s.ports :=
  State.eachDomain_keeps (fun t => t.ports) _ (fun t e => by split <;> simp) s
@[simp] theorem State.windOnBlocked_slots (p : Port) : (s.windOnBlocked p).slots = s.slots :=
  State.eachDomain_keeps (fun t => t.slots) _ (fun t e => by split <;> simp) s
@[simp] theorem State.windOnBlocked_account (p : Port) : (s.windOnBlocked p).account = s.account :=
  State.eachDomain_keeps (fun t => t.account) _ (fun t e => by split <;> simp) s
@[simp] theorem State.windOnBlocked_capture (p : Port) : (s.windOnBlocked p).capture = s.capture :=
  State.eachDomain_keeps (fun t => t.capture) _ (fun t e => by split <;> simp) s
@[simp] theorem State.windOnBlocked_causes (p : Port) : (s.windOnBlocked p).causes = s.causes :=
  State.eachDomain_keeps (fun t => t.causes) _ (fun t e => by split <;> simp) s

/-! ### parkDomain -/

@[simp] theorem State.parkDomain_fixed (d : Domain) : (s.parkDomain d).fixed = s.fixed := by
  unfold State.parkDomain; (repeat' split) <;> simp
@[simp] theorem State.parkDomain_ports (d : Domain) : (s.parkDomain d).ports = s.ports := by
  unfold State.parkDomain; (repeat' split) <;> simp
@[simp] theorem State.parkDomain_account (d : Domain) : (s.parkDomain d).account = s.account := by
  unfold State.parkDomain; (repeat' split) <;> simp
@[simp] theorem State.parkDomain_capture (d : Domain) : (s.parkDomain d).capture = s.capture := by
  unfold State.parkDomain; (repeat' split) <;> simp
@[simp] theorem State.parkDomain_causes (d : Domain) : (s.parkDomain d).causes = s.causes := by
  unfold State.parkDomain; (repeat' split) <;> simp

/-! ### shedDomain -/

@[simp] theorem State.shedDomain_fixed (d : Domain) : (s.shedDomain d).fixed = s.fixed := by
  unfold State.shedDomain; (repeat' split) <;> simp
@[simp] theorem State.shedDomain_account (d : Domain) : (s.shedDomain d).account = s.account := by
  unfold State.shedDomain; (repeat' split) <;> simp
@[simp] theorem State.shedDomain_causes (d : Domain) : (s.shedDomain d).causes = s.causes := by
  unfold State.shedDomain; (repeat' split) <;> simp

/-! ### shedOne -/

@[simp] theorem State.shedOne_fixed (d : Domain) : (s.shedOne d).fixed = s.fixed := by
  unfold State.shedOne; (repeat' split) <;> simp
@[simp] theorem State.shedOne_account (d : Domain) : (s.shedOne d).account = s.account := by
  unfold State.shedOne; (repeat' split) <;> simp

/-! ### shed -/

@[simp] theorem State.shed_fixed : (s.shed).fixed = s.fixed :=
  State.foldl_keeps (fun t => t.fixed) _ (fun t e => by simp) _ s
@[simp] theorem State.shed_account : (s.shed).account = s.account :=
  State.foldl_keeps (fun t => t.account) _ (fun t e => by simp) _ s

/-! ### setTier -/

@[simp] theorem State.setTier_fixed : (s.setTier).fixed = s.fixed := by
  rfl
@[simp] theorem State.setTier_ports : (s.setTier).ports = s.ports := by
  rfl
@[simp] theorem State.setTier_domains : (s.setTier).domains = s.domains := by
  rfl
@[simp] theorem State.setTier_slots : (s.setTier).slots = s.slots := by
  rfl
@[simp] theorem State.setTier_capture : (s.setTier).capture = s.capture := by
  rfl
@[simp] theorem State.setTier_causes : (s.setTier).causes = s.causes := by
  rfl

/-! ### retier -/

@[simp] theorem State.retier_fixed : (s.retier).fixed = s.fixed := by
  unfold State.retier; (repeat' split) <;> simp

/-! ### consumeToken -/

@[simp] theorem State.consumeToken_fixed (d : Domain) : (s.consumeToken d).fixed = s.fixed := by
  rfl
@[simp] theorem State.consumeToken_ports (d : Domain) : (s.consumeToken d).ports = s.ports := by
  rfl
@[simp] theorem State.consumeToken_domains (d : Domain) : (s.consumeToken d).domains = s.domains := by
  rfl
@[simp] theorem State.consumeToken_slots (d : Domain) : (s.consumeToken d).slots = s.slots := by
  rfl
@[simp] theorem State.consumeToken_capture (d : Domain) : (s.consumeToken d).capture = s.capture := by
  rfl
@[simp] theorem State.consumeToken_causes (d : Domain) : (s.consumeToken d).causes = s.causes := by
  rfl

/-! ### trigger -/

@[simp] theorem State.trigger_fixed (d : Domain) (c : Cause) : (s.trigger d c).fixed = s.fixed := by
  unfold State.trigger; (repeat' split) <;> simp
@[simp] theorem State.trigger_ports (d : Domain) (c : Cause) : (s.trigger d c).ports = s.ports := by
  unfold State.trigger; (repeat' split) <;> simp
@[simp] theorem State.trigger_domains (d : Domain) (c : Cause) : (s.trigger d c).domains = s.domains := by
  unfold State.trigger; (repeat' split) <;> simp
@[simp] theorem State.trigger_slots (d : Domain) (c : Cause) : (s.trigger d c).slots = s.slots := by
  unfold State.trigger; (repeat' split) <;> simp
@[simp] theorem State.trigger_account (d : Domain) (c : Cause) : (s.trigger d c).account = s.account := by
  unfold State.trigger; (repeat' split) <;> simp
@[simp] theorem State.trigger_causes (d : Domain) (c : Cause) : (s.trigger d c).causes = s.causes := by
  unfold State.trigger; (repeat' split) <;> simp

/-! ### settleAdmission -/

@[simp] theorem State.settleAdmission_fixed (d : Domain) (k : WakeClass) (c : Cause) (o : WakeOutcome) : (s.settleAdmission d k c o).fixed = s.fixed := by
  unfold State.settleAdmission; dsimp only; (repeat' split) <;> simp
@[simp] theorem State.settleAdmission_ports (d : Domain) (k : WakeClass) (c : Cause) (o : WakeOutcome) : (s.settleAdmission d k c o).ports = s.ports := by
  unfold State.settleAdmission; dsimp only; (repeat' split) <;> simp
@[simp] theorem State.settleAdmission_domains (d : Domain) (k : WakeClass) (c : Cause) (o : WakeOutcome) : (s.settleAdmission d k c o).domains = s.domains := by
  unfold State.settleAdmission; dsimp only; (repeat' split) <;> simp
@[simp] theorem State.settleAdmission_slots (d : Domain) (k : WakeClass) (c : Cause) (o : WakeOutcome) : (s.settleAdmission d k c o).slots = s.slots := by
  unfold State.settleAdmission; dsimp only; (repeat' split) <;> simp
@[simp] theorem State.settleAdmission_causes (d : Domain) (k : WakeClass) (c : Cause) (o : WakeOutcome) : (s.settleAdmission d k c o).causes = s.causes := by
  unfold State.settleAdmission; dsimp only; (repeat' split) <;> simp

/-! ### actOn -/

@[simp] theorem State.actOn_fixed (d : Domain) (c : WakeClass) (o : WakeOutcome) : (s.actOn d c o).fixed = s.fixed := by
  unfold State.actOn; (repeat' split) <;> simp
@[simp] theorem State.actOn_account (d : Domain) (c : WakeClass) (o : WakeOutcome) : (s.actOn d c o).account = s.account := by
  unfold State.actOn; (repeat' split) <;> simp
@[simp] theorem State.actOn_causes (d : Domain) (c : WakeClass) (o : WakeOutcome) : (s.actOn d c o).causes = s.causes := by
  unfold State.actOn; (repeat' split) <;> simp

/-! ### wakeRequest -/

@[simp] theorem State.wakeRequest_fixed (d : Domain) (k : WakeClass) (c : Cause) : (s.wakeRequest d k c).fixed = s.fixed := by
  unfold State.wakeRequest; simp

/-! ### grantTo -/

@[simp] theorem State.grantTo_fixed (d : Domain) : (s.grantTo d).fixed = s.fixed := by
  unfold State.grantTo; dsimp only; (repeat' split) <;> simp

/-! ### grantSlot -/

@[simp] theorem State.grantSlot_fixed : (s.grantSlot).fixed = s.fixed := by
  unfold State.grantSlot; (repeat' split) <;> simp

/-! ### openBuffer -/

@[simp] theorem State.openBuffer_fixed : (s.openBuffer).fixed = s.fixed := by
  unfold State.openBuffer; (repeat' split) <;> simp
@[simp] theorem State.openBuffer_ports : (s.openBuffer).ports = s.ports := by
  unfold State.openBuffer; (repeat' split) <;> simp
@[simp] theorem State.openBuffer_domains : (s.openBuffer).domains = s.domains := by
  unfold State.openBuffer; (repeat' split) <;> simp
@[simp] theorem State.openBuffer_slots : (s.openBuffer).slots = s.slots := by
  unfold State.openBuffer; (repeat' split) <;> simp
@[simp] theorem State.openBuffer_account : (s.openBuffer).account = s.account := by
  unfold State.openBuffer; (repeat' split) <;> simp
@[simp] theorem State.openBuffer_causes : (s.openBuffer).causes = s.causes := by
  unfold State.openBuffer; (repeat' split) <;> simp

/-! ### recordFrame -/

@[simp] theorem State.recordFrame_fixed (f : StoredFrame) : (s.recordFrame f).fixed = s.fixed := by
  unfold State.recordFrame; (repeat' split) <;> simp
@[simp] theorem State.recordFrame_ports (f : StoredFrame) : (s.recordFrame f).ports = s.ports := by
  unfold State.recordFrame; (repeat' split) <;> simp
@[simp] theorem State.recordFrame_domains (f : StoredFrame) : (s.recordFrame f).domains = s.domains := by
  unfold State.recordFrame; (repeat' split) <;> simp
@[simp] theorem State.recordFrame_slots (f : StoredFrame) : (s.recordFrame f).slots = s.slots := by
  unfold State.recordFrame; (repeat' split) <;> simp
@[simp] theorem State.recordFrame_account (f : StoredFrame) : (s.recordFrame f).account = s.account := by
  unfold State.recordFrame; (repeat' split) <;> simp
@[simp] theorem State.recordFrame_causes (f : StoredFrame) : (s.recordFrame f).causes = s.causes := by
  unfold State.recordFrame; (repeat' split) <;> simp

/-! ### closeBuffer -/

@[simp] theorem State.closeBuffer_fixed : (s.closeBuffer).fixed = s.fixed := by
  simp [State.closeBuffer]
@[simp] theorem State.closeBuffer_ports : (s.closeBuffer).ports = s.ports := by
  simp [State.closeBuffer]
@[simp] theorem State.closeBuffer_domains : (s.closeBuffer).domains = s.domains := by
  simp [State.closeBuffer]
@[simp] theorem State.closeBuffer_slots : (s.closeBuffer).slots = s.slots := by
  simp [State.closeBuffer]
@[simp] theorem State.closeBuffer_account : (s.closeBuffer).account = s.account := by
  simp [State.closeBuffer]
@[simp] theorem State.closeBuffer_causes : (s.closeBuffer).causes = s.causes := by
  simp [State.closeBuffer]

/-! ### closeIfComplete -/

@[simp] theorem State.closeIfComplete_fixed : (s.closeIfComplete).fixed = s.fixed := by
  unfold State.closeIfComplete; dsimp only; (repeat' split) <;> simp
@[simp] theorem State.closeIfComplete_ports : (s.closeIfComplete).ports = s.ports := by
  unfold State.closeIfComplete; dsimp only; (repeat' split) <;> simp
@[simp] theorem State.closeIfComplete_domains : (s.closeIfComplete).domains = s.domains := by
  unfold State.closeIfComplete; dsimp only; (repeat' split) <;> simp
@[simp] theorem State.closeIfComplete_slots : (s.closeIfComplete).slots = s.slots := by
  unfold State.closeIfComplete; dsimp only; (repeat' split) <;> simp
@[simp] theorem State.closeIfComplete_account : (s.closeIfComplete).account = s.account := by
  unfold State.closeIfComplete; dsimp only; (repeat' split) <;> simp
@[simp] theorem State.closeIfComplete_causes : (s.closeIfComplete).causes = s.causes := by
  unfold State.closeIfComplete; dsimp only; (repeat' split) <;> simp

/-! ### captureParkExit -/

@[simp] theorem State.captureParkExit_fixed : (s.captureParkExit).fixed = s.fixed := by
  unfold State.captureParkExit; (repeat' split) <;> simp
@[simp] theorem State.captureParkExit_ports : (s.captureParkExit).ports = s.ports := by
  unfold State.captureParkExit; (repeat' split) <;> simp
@[simp] theorem State.captureParkExit_domains : (s.captureParkExit).domains = s.domains := by
  unfold State.captureParkExit; (repeat' split) <;> simp
@[simp] theorem State.captureParkExit_slots : (s.captureParkExit).slots = s.slots := by
  unfold State.captureParkExit; (repeat' split) <;> simp
@[simp] theorem State.captureParkExit_account : (s.captureParkExit).account = s.account := by
  unfold State.captureParkExit; (repeat' split) <;> simp
@[simp] theorem State.captureParkExit_causes : (s.captureParkExit).causes = s.causes := by
  unfold State.captureParkExit; (repeat' split) <;> simp

/-! ### release -/

@[simp] theorem State.release_fixed (j : Nat) : (s.release j).fixed = s.fixed := by
  rfl
@[simp] theorem State.release_domains (j : Nat) : (s.release j).domains = s.domains := by
  rfl
@[simp] theorem State.release_slots (j : Nat) : (s.release j).slots = s.slots := by
  rfl
@[simp] theorem State.release_account (j : Nat) : (s.release j).account = s.account := by
  rfl
@[simp] theorem State.release_causes (j : Nat) : (s.release j).causes = s.causes := by
  rfl

/-! ### freeBuffer -/

@[simp] theorem State.freeBuffer_fixed : (s.freeBuffer).fixed = s.fixed := by
  simp [State.freeBuffer]
@[simp] theorem State.freeBuffer_ports : (s.freeBuffer).ports = s.ports := by
  simp [State.freeBuffer]
@[simp] theorem State.freeBuffer_domains : (s.freeBuffer).domains = s.domains := by
  simp [State.freeBuffer]
@[simp] theorem State.freeBuffer_slots : (s.freeBuffer).slots = s.slots := by
  simp [State.freeBuffer]
@[simp] theorem State.freeBuffer_account : (s.freeBuffer).account = s.account := by
  simp [State.freeBuffer]
@[simp] theorem State.freeBuffer_causes : (s.freeBuffer).causes = s.causes := by
  simp [State.freeBuffer]

/-! ### endReplay -/

@[simp] theorem State.endReplay_fixed (p : Port) (j : Nat) : (s.endReplay p j).fixed = s.fixed := by
  rfl
@[simp] theorem State.endReplay_domains (p : Port) (j : Nat) : (s.endReplay p j).domains = s.domains := by
  rfl
@[simp] theorem State.endReplay_slots (p : Port) (j : Nat) : (s.endReplay p j).slots = s.slots := by
  rfl
@[simp] theorem State.endReplay_account (p : Port) (j : Nat) : (s.endReplay p j).account = s.account := by
  rfl
@[simp] theorem State.endReplay_causes (p : Port) (j : Nat) : (s.endReplay p j).causes = s.causes := by
  rfl

/-! ### endReplayAttempt -/

@[simp] theorem State.endReplayAttempt_fixed (p : Port) (j slot : Nat) (o : TxOutcome) : (s.endReplayAttempt p j slot o).fixed = s.fixed := by
  unfold State.endReplayAttempt; dsimp only; (repeat' split) <;> simp
@[simp] theorem State.endReplayAttempt_domains (p : Port) (j slot : Nat) (o : TxOutcome) : (s.endReplayAttempt p j slot o).domains = s.domains := by
  unfold State.endReplayAttempt; dsimp only; (repeat' split) <;> simp
@[simp] theorem State.endReplayAttempt_slots (p : Port) (j slot : Nat) (o : TxOutcome) : (s.endReplayAttempt p j slot o).slots = s.slots := by
  unfold State.endReplayAttempt; dsimp only; (repeat' split) <;> simp
@[simp] theorem State.endReplayAttempt_account (p : Port) (j slot : Nat) (o : TxOutcome) : (s.endReplayAttempt p j slot o).account = s.account := by
  unfold State.endReplayAttempt; dsimp only; (repeat' split) <;> simp
@[simp] theorem State.endReplayAttempt_causes (p : Port) (j slot : Nat) (o : TxOutcome) : (s.endReplayAttempt p j slot o).causes = s.causes := by
  unfold State.endReplayAttempt; dsimp only; (repeat' split) <;> simp

/-! ### applyAbort -/

@[simp] theorem State.applyAbort_fixed (p : Port) : (s.applyAbort p).fixed = s.fixed := by
  unfold State.applyAbort; (repeat' split) <;> simp
@[simp] theorem State.applyAbort_domains (p : Port) : (s.applyAbort p).domains = s.domains := by
  unfold State.applyAbort; (repeat' split) <;> simp
@[simp] theorem State.applyAbort_slots (p : Port) : (s.applyAbort p).slots = s.slots := by
  unfold State.applyAbort; (repeat' split) <;> simp
@[simp] theorem State.applyAbort_account (p : Port) : (s.applyAbort p).account = s.account := by
  unfold State.applyAbort; (repeat' split) <;> simp
@[simp] theorem State.applyAbort_causes (p : Port) : (s.applyAbort p).causes = s.causes := by
  unfold State.applyAbort; (repeat' split) <;> simp

/-! ### accountFailure -/

@[simp] theorem State.accountFailure_fixed (p : Port) (b : Bool) : (s.accountFailure p b).fixed = s.fixed := by
  unfold State.accountFailure; dsimp only; (repeat' split) <;> simp
@[simp] theorem State.accountFailure_slots (p : Port) (b : Bool) : (s.accountFailure p b).slots = s.slots := by
  unfold State.accountFailure; dsimp only; (repeat' split) <;> simp
@[simp] theorem State.accountFailure_account (p : Port) (b : Bool) : (s.accountFailure p b).account = s.account := by
  unfold State.accountFailure; dsimp only; (repeat' split) <;> simp
@[simp] theorem State.accountFailure_capture (p : Port) (b : Bool) : (s.accountFailure p b).capture = s.capture := by
  unfold State.accountFailure; dsimp only; (repeat' split) <;> simp
@[simp] theorem State.accountFailure_causes (p : Port) (b : Bool) : (s.accountFailure p b).causes = s.causes := by
  unfold State.accountFailure; dsimp only; (repeat' split) <;> simp

/-! ### accountEnd -/

@[simp] theorem State.accountEnd_fixed (p : Port) (b : Bool) (o : TxOutcome) : (s.accountEnd p b o).fixed = s.fixed := by
  unfold State.accountEnd; (repeat' split) <;> simp
@[simp] theorem State.accountEnd_slots (p : Port) (b : Bool) (o : TxOutcome) : (s.accountEnd p b o).slots = s.slots := by
  unfold State.accountEnd; (repeat' split) <;> simp
@[simp] theorem State.accountEnd_account (p : Port) (b : Bool) (o : TxOutcome) : (s.accountEnd p b o).account = s.account := by
  unfold State.accountEnd; (repeat' split) <;> simp
@[simp] theorem State.accountEnd_capture (p : Port) (b : Bool) (o : TxOutcome) : (s.accountEnd p b o).capture = s.capture := by
  unfold State.accountEnd; (repeat' split) <;> simp
@[simp] theorem State.accountEnd_causes (p : Port) (b : Bool) (o : TxOutcome) : (s.accountEnd p b o).causes = s.causes := by
  unfold State.accountEnd; (repeat' split) <;> simp

/-! ### noticeSent -/

@[simp] theorem State.noticeSent_fixed (d : Domain) (k : NoticeKind) : (s.noticeSent d k).fixed = s.fixed := by
  unfold State.noticeSent; (repeat' split) <;> simp
@[simp] theorem State.noticeSent_ports (d : Domain) (k : NoticeKind) : (s.noticeSent d k).ports = s.ports := by
  unfold State.noticeSent; (repeat' split) <;> simp
@[simp] theorem State.noticeSent_slots (d : Domain) (k : NoticeKind) : (s.noticeSent d k).slots = s.slots := by
  unfold State.noticeSent; (repeat' split) <;> simp
@[simp] theorem State.noticeSent_account (d : Domain) (k : NoticeKind) : (s.noticeSent d k).account = s.account := by
  unfold State.noticeSent; (repeat' split) <;> simp
@[simp] theorem State.noticeSent_capture (d : Domain) (k : NoticeKind) : (s.noticeSent d k).capture = s.capture := by
  unfold State.noticeSent; (repeat' split) <;> simp
@[simp] theorem State.noticeSent_causes (d : Domain) (k : NoticeKind) : (s.noticeSent d k).causes = s.causes := by
  unfold State.noticeSent; (repeat' split) <;> simp

/-! ### dropHead -/

@[simp] theorem State.dropHead_fixed (p : Port) : (s.dropHead p).fixed = s.fixed := by
  rfl
@[simp] theorem State.dropHead_domains (p : Port) : (s.dropHead p).domains = s.domains := by
  rfl
@[simp] theorem State.dropHead_slots (p : Port) : (s.dropHead p).slots = s.slots := by
  rfl
@[simp] theorem State.dropHead_account (p : Port) : (s.dropHead p).account = s.account := by
  rfl
@[simp] theorem State.dropHead_capture (p : Port) : (s.dropHead p).capture = s.capture := by
  rfl
@[simp] theorem State.dropHead_causes (p : Port) : (s.dropHead p).causes = s.causes := by
  rfl

/-! ### startQueue -/

@[simp] theorem State.startQueue_fixed (p : Port) : (s.startQueue p).fixed = s.fixed := by
  unfold State.startQueue; (repeat' split) <;> simp
@[simp] theorem State.startQueue_domains (p : Port) : (s.startQueue p).domains = s.domains := by
  unfold State.startQueue; (repeat' split) <;> simp
@[simp] theorem State.startQueue_slots (p : Port) : (s.startQueue p).slots = s.slots := by
  unfold State.startQueue; (repeat' split) <;> simp
@[simp] theorem State.startQueue_account (p : Port) : (s.startQueue p).account = s.account := by
  unfold State.startQueue; (repeat' split) <;> simp
@[simp] theorem State.startQueue_capture (p : Port) : (s.startQueue p).capture = s.capture := by
  unfold State.startQueue; (repeat' split) <;> simp
@[simp] theorem State.startQueue_causes (p : Port) : (s.startQueue p).causes = s.causes := by
  unfold State.startQueue; (repeat' split) <;> simp

end Sys2Proof.Machine
end

