-- ==== Sys2Proof/Laws/Effects.lean ====
section
/-!
SUPPORT. What each shared operation does: the ports after a derivation, the domains after a transition, the wait queue after a
join, the answers of the Management Unit, and the tier.
-/

namespace Sys2Proof.Machine

variable (s : State)

/-! ### Reading a record -/

theorem State.dom_of_domains {s t : State} (h : t.domains = s.domains) (d : Domain) : t.dom d = s.dom d := by
  rw [State.dom, h, State.dom]

/-! ### The port state derivation (R5, R7, R8) -/

@[simp] theorem State.abortReplay_active (p q : Port) : ((s.abortReplay p).port q).active = (s.port q).active := by
  unfold State.abortReplay
  split <;> simp only [State.port_updPort] <;> (try split) <;> rfl

/-- The change to LISTEN makes the port LISTEN and leaves the state of every other port. -/
theorem State.portListen_active (p q : Port) :
    ((s.portListen p).port q).active = if q = p then false else (s.port q).active := by
  have hl : ((s.updPort p PortUnit.toListen).port q).active = if q = p then false else (s.port q).active := by
    rw [State.port_updPort]
    split <;> rfl
  unfold State.portListen
  dsimp only
  split
  · exact hl
  · split
    · rw [State.port_updPort]
      split
      · next h => exact hl.trans (if_pos h)
      · next h => rw [hl, if_neg h]
    · rw [State.abortReplay_active, hl]

/-- The derivation of a port's state says whether it is ACTIVE, and leaves the state of every other port (R5). -/
theorem State.rederive_active (p q : Port) :
    ((s.rederive p).port q).active = if q = p then s.derivedActive p else (s.port q).active := by
  unfold State.rederive
  split
  · next h => split <;> simp_all
  · split
    · next h => simp only [State.port_updPort, PortUnit.toActive]; split <;> simp_all
    · next h => rw [State.portListen_active]; split <;> simp_all

/-! ### The transitions of a domain (R77, R78) -/

/-- A transition gives the domain its state and its enable line, and leaves every other record. -/
theorem State.enterState_dom (d e : Domain) (st : DomainState) :
    (s.enterState d st).dom e = if e = d then { s.dom e with state := st, enable := st.powered } else s.dom e := by
  rw [State.enterState, State.dom_of_domains (State.rederive_domains _ _), State.dom_updDom]

theorem State.offerSleep_dom_ne {d e : Domain} (h : e ≠ d) : (s.offerSleep d).dom e = s.dom e := by
  unfold State.offerSleep
  split <;> exact State.dom_updDom_ne _ _ h

theorem State.offerCancel_dom_ne {d e : Domain} (h : e ≠ d) : (s.offerCancel d).dom e = s.dom e := by
  unfold State.offerCancel
  split <;> exact State.dom_updDom_ne _ _ h

theorem State.settleNotice_dom_ne {d e : Domain} (h : e ≠ d) (k : NoticeKind) (b : Bool) :
    (s.settleNotice d k b).dom e = s.dom e := by
  unfold State.settleNotice
  split
  · exact State.dom_updDom_ne _ _ h
  · exact s.offerSleep_dom_ne h
  · exact s.offerCancel_dom_ne h
  · exact s.offerCancel_dom_ne h
  · exact State.dom_updDom_ne _ _ h

/-- A withdrawal of a domain's notice leaves the record of every other domain (R91). -/
theorem State.withdrawNotice_dom_ne {d e : Domain} (h : e ≠ d) : (s.withdrawNotice d).dom e = s.dom e := by
  unfold State.withdrawNotice
  dsimp only
  split
  · rfl
  · split
    · exact State.dom_updDom_ne _ _ h
    · split
      · exact State.dom_updDom_ne _ _ h
      · exact State.settleNotice_dom_ne _ h _ _

/-- A switching off leaves the record of every other domain (R76, R81, R83, R92, R95, R97). -/
theorem State.switchOff_dom_ne {d e : Domain} (h : e ≠ d) (st : DomainState) (f : DomainRec → DomainRec) :
    (s.switchOff d st f).dom e = s.dom e := by
  have hr : ∀ t : State, (t.releaseSlot d).dom e = t.dom e := fun t => by
    rw [State.releaseSlot, State.dom_updDom_ne _ _ h]; rfl
  have hq : ∀ (t : State) (g : SlotArbiter → SlotArbiter), (t.updSlots g).dom e = t.dom e := fun _ _ => rfl
  simp only [State.switchOff]
  rw [State.dom_of_domains (State.domainDown_domains _ _), State.withdrawNotice_dom_ne _ h, hr, hq, State.enterState_dom,
    if_neg h, State.dom_updDom_ne _ _ h]

/-- An entry to WINDING leaves the record of every other domain (R88). -/
theorem State.enterWinding_dom_ne {d e : Domain} (h : e ≠ d) (r : SleepReason) : (s.enterWinding d r).dom e = s.dom e := by
  have hn : ∀ t : State, (t.noticeAtWinding d).dom e = t.dom e := fun t => by
    unfold State.noticeAtWinding
    split
    · exact State.withdrawNotice_dom_ne _ h
    · rfl
    · rfl
    · exact State.offerSleep_dom_ne _ h
    · exact State.dom_updDom_ne _ _ h
    · exact State.dom_updDom_ne _ _ h
    · exact State.dom_updDom_ne _ _ h
    · exact State.offerSleep_dom_ne _ h
  rw [State.enterWinding, hn, State.enterState_dom, if_neg h, State.dom_updDom_ne _ _ h]

/-! ### The wait queue (R103) -/

/-- A join puts one entry into the queue and keeps the others in their order. -/
theorem insertEntry_split (e : WaitEntry) (q : List WaitEntry) :
    ∃ before after, q = before ++ after ∧ insertEntry e q = before ++ e :: after ∧ (∀ x ∈ before, e.before x = false) ∧
      ∀ x ∈ after.head?, e.before x = true := by
  induction q with
  | nil => exact ⟨[], [], rfl, rfl, by simp, by simp⟩
  | cons x rest ih =>
    unfold insertEntry
    split
    · next h => exact ⟨[], x :: rest, rfl, rfl, by simp, by simpa using h⟩
    · next h =>
      obtain ⟨b, a, rfl, hi, hb, ha⟩ := ih
      exact ⟨x :: b, a, rfl, by simp [hi], by simpa using ⟨by simpa using h, hb⟩, ha⟩

theorem insertEntry_perm (e : WaitEntry) (q : List WaitEntry) : (insertEntry e q).Perm (e :: q) := by
  obtain ⟨b, a, rfl, hi, -, -⟩ := insertEntry_split e q
  rw [hi]
  exact List.perm_middle

@[simp] theorem mem_insertEntry {e x : WaitEntry} {q : List WaitEntry} : x ∈ insertEntry e q ↔ x = e ∨ x ∈ q := by
  rw [(insertEntry_perm e q).mem_iff, List.mem_cons]

/-! ### The Management Unit (R162, R163, R172) -/

/-- A request that the Management Unit takes is counted as received, ends BLOCKED, and is carried out by `manage`. -/
theorem takeRequest_next (code tag : Byte) (args : List Byte) (manage : Byte → List Byte → State → State)
    (hb : (s.port Port.B).active = true) (hr : s.management.resetPending = false) :
    takeRequest code tag args manage s =
      .next (manage tag (frameArgs args) (s.frameHeard Port.B PortUnit.countReceived)) := by
  simp [takeRequest, State.requestFrame, hb, hr]

/-- A request taken while a reset is pending is counted and no more. -/
theorem takeRequest_pending (code tag : Byte) (args : List Byte) (manage : Byte → List Byte → State → State)
    (hb : (s.port Port.B).active = true) (hr : s.management.resetPending = true) :
    takeRequest code tag args manage s = .next (s.frameHeard Port.B PortUnit.countReceived) := by
  simp [takeRequest, State.requestFrame, hb, hr]

/-- A request frame that arrives while B is LISTEN becomes a record. -/
theorem takeRequest_listen (code tag : Byte) (args : List Byte) (manage : Byte → List Byte → State → State)
    (hb : (s.port Port.B).active = false) :
    takeRequest code tag args manage s =
      .next ((s.frameHeard Port.B PortUnit.countReceived).updPort Port.B
        (fun u => u.store (s.portRecord Port.B s.requestId (code :: tag :: frameArgs args)))) := by
  simp [takeRequest, State.requestFrame, hb]

/-- A request with too few argument bytes clears the reset-prepared flag and is answered LENGTH. -/
theorem State.manage_short {code tag : Byte} {args : List Byte} {needed : Nat} {body : State → State × Answer}
    (h : args.length < needed) :
    s.manage code tag args needed body = (s.setPrepared false).respond code tag (.bare .length) := by
  simp [State.manage, h]

/-- A request with the argument bytes that it needs clears the reset-prepared flag and is answered by its body. -/
theorem State.manage_long {code tag : Byte} {args : List Byte} {needed : Nat} {body : State → State × Answer}
    (h : needed ≤ args.length) :
    s.manage code tag args needed body =
      ((body (s.setPrepared false)).1).respond code tag (body (s.setPrepared false)).2 := by
  simp [State.manage, Nat.not_lt.mpr h]

/-! ### The Charge Account (R125, R139) -/

/-- After the tier is recomputed it is the prescribed one, whether or not the change is shed. -/
theorem State.retier_account : s.retier.account = { s.account with tier := s.account.prescribedTier } := by
  have hs : ∀ t : State, t.shed.account = t.account := fun t => by simp
  unfold State.retier
  split
  · rw [hs]; rfl
  · rfl

/-- A cause record is appended while there is a place, and counted as lost otherwise. -/
theorem CauseQueue.write_cases (q : CauseQueue) (r : CauseRecord) :
    (q.records.length < 32 ∧ q.write r = { q with records := q.records ++ [r] }) ∨
      (32 ≤ q.records.length ∧ q.write r = { q with overflow := satInc 255 q.overflow }) := by
  unfold CauseQueue.write
  split
  · next h => exact .inl ⟨h, rfl⟩
  · next h => exact .inr ⟨Nat.not_lt.mp h, rfl⟩

end Sys2Proof.Machine
end

