-- ==== Sys2Proof/Laws/Seconds.lean ====
section
/-!
SUPPORT. The expiries of a park second, the removal of contributions at their window, and the counting of a millisecond: what
each leaves as it was, and when it changes nothing.
-/

namespace Sys2Proof.Machine

variable (s : State)

/-! ### The park timers (R65, R69 to R71) -/

theorem State.timerEvent_frame (t : TimerIx) (n : BitVec 8) : ∃ u, s.timerEvent t n = { s with timerUnit := u } := by
  unfold State.timerEvent; split <;> exact ⟨_, rfl⟩

/-- The expiry of a timer changes the Timer Unit alone. -/
theorem State.timerExpires_frame (t : TimerIx) : ∃ u, s.timerExpires t = { s with timerUnit := u } := by
  unfold State.timerExpires
  dsimp only
  split
  · exact ⟨_, rfl⟩
  · exact (s.updTimer t TimerRec.expired).timerEvent_frame t _

theorem State.timerDue_frame (t : TimerIx) : ∃ u, s.timerDue t = { s with timerUnit := u } := by
  unfold State.timerDue
  split
  · exact s.timerExpires_frame t
  · exact ⟨_, rfl⟩

/-- A fold of operations that each change the Timer Unit alone does so. -/
theorem State.foldl_timerUnit {f : State → TimerIx → State} (h : ∀ s t, ∃ u, f s t = { s with timerUnit := u })
    (l : List TimerIx) (s : State) : ∃ u, l.foldl f s = { s with timerUnit := u } := by
  induction l generalizing s with
  | nil => exact ⟨_, rfl⟩
  | cons t l ih =>
    obtain ⟨u, hu⟩ := h s t
    rw [List.foldl_cons, hu]
    exact ih _

/-- The expiries of the timers that are due change the Timer Unit alone. -/
theorem State.timersDueTo_frame (t : TimerIx) : ∃ u, s.timersDueTo t = { s with timerUnit := u } := by
  unfold State.timersDueTo
  split
  · exact State.foldl_timerUnit (fun s t => s.timerDue_frame t) _ s
  · exact ⟨_, rfl⟩

theorem State.timerDue_of_not_due {t : TimerIx} (h : (s.timer t).due = false) : s.timerDue t = s := by
  simp [State.timerDue, h]

theorem State.timersDueTo_of_not_due {t : TimerIx} (h : (s.timer t).due = false) : s.timersDueTo t = s := by
  simp [State.timersDueTo, h]

/-! ### The refill countdowns (R134) -/

/-- The expiry of a refill countdown changes the tokens of the account alone. -/
theorem State.refillDue_frame (d : Domain) :
    ∃ k, s.refillDue d = { s with account := { s.account with tokens := k } } := by
  unfold State.refillDue
  split <;> exact ⟨_, rfl⟩

@[simp] theorem State.refillDue_fixed (d : Domain) : (s.refillDue d).fixed = s.fixed := by
  unfold State.refillDue; split <;> simp
@[simp] theorem State.refillDue_ports (d : Domain) : (s.refillDue d).ports = s.ports := by
  unfold State.refillDue; split <;> simp
@[simp] theorem State.refillDue_domains (d : Domain) : (s.refillDue d).domains = s.domains := by
  unfold State.refillDue; split <;> simp
@[simp] theorem State.refillDue_slots (d : Domain) : (s.refillDue d).slots = s.slots := by
  unfold State.refillDue; split <;> simp
@[simp] theorem State.refillDue_capture (d : Domain) : (s.refillDue d).capture = s.capture := by
  unfold State.refillDue; split <;> simp
@[simp] theorem State.refillDue_causes (d : Domain) : (s.refillDue d).causes = s.causes := by
  unfold State.refillDue; split <;> simp

theorem State.refillDue_of_ne {d : Domain} (h : (s.tokens d).countdown ≠ some 0) : s.refillDue d = s := by
  simp [State.refillDue, h]

theorem State.refillDue_of_run (d : Domain) (h : s.mode = .run) : s.refillDue d = s := by simp [State.refillDue, h]

/-- A refill expiry that is due gives its domain the refilled tokens, and leaves those of every other domain. -/
theorem State.refillDue_tokens (d e : Domain) :
    (s.refillDue d).tokens e =
      if e = d ∧ s.mode = .park ∧ (s.tokens d).countdown = some 0 then
        (s.tokens d).refilled (s.dom d).params.tokenCap (s.dom d).params.refill
      else s.tokens e := by
  unfold State.refillDue
  split
  · next h =>
    by_cases he : e = d
    · subst he; simp [h]
    · simp [he, State.tokens_updTokens_ne]
  · next h => rw [if_neg (fun hh => h hh.2)]

/-- The refill expiries that are due change the tokens of the account alone. -/
theorem State.refillsDueTo_frame (d : Domain) :
    ∃ k, s.refillsDueTo d = { s with account := { s.account with tokens := k } } := by
  have fold : ∀ (l : List Domain) (s : State),
      ∃ k, l.foldl State.refillDue s = { s with account := { s.account with tokens := k } } := by
    intro l
    induction l with
    | nil => exact fun s => ⟨_, rfl⟩
    | cons e l ih =>
      intro s
      obtain ⟨k, hk⟩ := s.refillDue_frame e
      rw [List.foldl_cons, hk]
      exact ih _
  unfold State.refillsDueTo
  split
  · exact fold _ s
  · exact ⟨_, rfl⟩

@[simp] theorem State.refillsDueTo_fixed (d : Domain) : (s.refillsDueTo d).fixed = s.fixed := by
  obtain ⟨k, hk⟩ := s.refillsDueTo_frame d; rw [hk]; rfl
@[simp] theorem State.refillsDueTo_ports (d : Domain) : (s.refillsDueTo d).ports = s.ports := by
  obtain ⟨k, hk⟩ := s.refillsDueTo_frame d; rw [hk]
@[simp] theorem State.refillsDueTo_domains (d : Domain) : (s.refillsDueTo d).domains = s.domains := by
  obtain ⟨k, hk⟩ := s.refillsDueTo_frame d; rw [hk]
@[simp] theorem State.refillsDueTo_slots (d : Domain) : (s.refillsDueTo d).slots = s.slots := by
  obtain ⟨k, hk⟩ := s.refillsDueTo_frame d; rw [hk]
@[simp] theorem State.refillsDueTo_capture (d : Domain) : (s.refillsDueTo d).capture = s.capture := by
  obtain ⟨k, hk⟩ := s.refillsDueTo_frame d; rw [hk]
@[simp] theorem State.refillsDueTo_causes (d : Domain) : (s.refillsDueTo d).causes = s.causes := by
  obtain ⟨k, hk⟩ := s.refillsDueTo_frame d; rw [hk]

theorem State.refillsDueTo_of_ne {d : Domain} (h : (s.tokens d).countdown ≠ some 0) : s.refillsDueTo d = s := by
  simp [State.refillsDueTo, h]

/-! ### The idle and min-awake timers (R84, R87) -/

@[simp] theorem State.windIfIdle_fixed (d : Domain) : (s.windIfIdle d).fixed = s.fixed := by
  unfold State.windIfIdle; split <;> simp
@[simp] theorem State.windIfIdle_slots (d : Domain) : (s.windIfIdle d).slots = s.slots := by
  unfold State.windIfIdle; split <;> simp
@[simp] theorem State.windIfIdle_account (d : Domain) : (s.windIfIdle d).account = s.account := by
  unfold State.windIfIdle; split <;> simp
@[simp] theorem State.windIfIdle_causes (d : Domain) : (s.windIfIdle d).causes = s.causes := by
  unfold State.windIfIdle; split <;> simp
theorem State.windIfIdle_dom_ne {d e : Domain} (h : e ≠ d) : (s.windIfIdle d).dom e = s.dom e := by
  unfold State.windIfIdle
  split
  · exact s.enterWinding_dom_ne h _
  · rfl

@[simp] theorem State.idleDue_fixed (d : Domain) : (s.idleDue d).fixed = s.fixed := by
  unfold State.idleDue; split <;> simp
@[simp] theorem State.idleDue_slots (d : Domain) : (s.idleDue d).slots = s.slots := by
  unfold State.idleDue; split <;> simp
@[simp] theorem State.idleDue_account (d : Domain) : (s.idleDue d).account = s.account := by
  unfold State.idleDue; split <;> simp
@[simp] theorem State.idleDue_causes (d : Domain) : (s.idleDue d).causes = s.causes := by
  unfold State.idleDue; split <;> simp
theorem State.idleDue_dom_ne {d e : Domain} (h : e ≠ d) : (s.idleDue d).dom e = s.dom e := by
  unfold State.idleDue
  split
  · rw [State.windIfIdle_dom_ne _ h, State.dom_updDom_ne _ _ h]
  · rfl

theorem State.idleDue_of_ne {d : Domain} (h : (s.dom d).idleTimer ≠ .running 0) : s.idleDue d = s := by
  simp [State.idleDue, h]

@[simp] theorem State.minAwakeDue_fixed (d : Domain) : (s.minAwakeDue d).fixed = s.fixed := by
  unfold State.minAwakeDue; split <;> simp
@[simp] theorem State.minAwakeDue_slots (d : Domain) : (s.minAwakeDue d).slots = s.slots := by
  unfold State.minAwakeDue; split <;> simp
@[simp] theorem State.minAwakeDue_account (d : Domain) : (s.minAwakeDue d).account = s.account := by
  unfold State.minAwakeDue; split <;> simp
@[simp] theorem State.minAwakeDue_causes (d : Domain) : (s.minAwakeDue d).causes = s.causes := by
  unfold State.minAwakeDue; split <;> simp
theorem State.minAwakeDue_dom_ne {d e : Domain} (h : e ≠ d) : (s.minAwakeDue d).dom e = s.dom e := by
  unfold State.minAwakeDue
  split
  · rw [State.windIfIdle_dom_ne _ h, State.dom_updDom_ne _ _ h]
  · rfl

theorem State.minAwakeDue_of_ne {d : Domain} (h : (s.dom d).minAwakeTimer ≠ some 0) : s.minAwakeDue d = s := by
  simp [State.minAwakeDue, h]

/-! ### All that is due -/

@[simp] theorem State.domainDue_fixed (d : Domain) : (s.domainDue d).fixed = s.fixed := by simp [State.domainDue]
@[simp] theorem State.domainDue_slots (d : Domain) : (s.domainDue d).slots = s.slots := by simp [State.domainDue]
@[simp] theorem State.domainDue_causes (d : Domain) : (s.domainDue d).causes = s.causes := by simp [State.domainDue]

/-- Taking the expiries of the timers that are due changes the Timer Unit alone. -/
theorem State.allTimersDue_frame : ∃ u, (List.finRange 8).foldl State.timersDueTo s = { s with timerUnit := u } :=
  State.foldl_timerUnit (fun s t => s.timersDueTo_frame t) _ s

/-- What takes the expiries that are due leaves the Timer Unit aside as the expiries of the timers leave it, and keeps every
other block that no domain touches. -/
theorem State.takeDue_fixed : ∃ u, s.takeDue.fixed = ({ s with timerUnit := u } : State).fixed := by
  obtain ⟨u, hu⟩ := s.allTimersDue_frame
  refine ⟨u, ?_⟩
  rw [State.takeDue, State.eachDomain_keeps (fun t => t.fixed) _ (fun t d => t.domainDue_fixed d), hu]

@[simp] theorem State.takeDue_slots : s.takeDue.slots = s.slots := by
  obtain ⟨u, hu⟩ := s.allTimersDue_frame
  rw [State.takeDue, State.eachDomain_keeps (fun t => t.slots) _ (fun t d => t.domainDue_slots d), hu]
@[simp] theorem State.takeDue_causes : s.takeDue.causes = s.causes := by
  obtain ⟨u, hu⟩ := s.allTimersDue_frame
  rw [State.takeDue, State.eachDomain_keeps (fun t => t.causes) _ (fun t d => t.domainDue_causes d), hu]
@[simp] theorem State.takeDue_management : s.takeDue.management = s.management := by
  obtain ⟨u, hu⟩ := s.takeDue_fixed
  rw [State.management_of_fixed hu]
@[simp] theorem State.takeDue_pointer : s.takeDue.pointer = s.pointer := by
  obtain ⟨u, hu⟩ := s.takeDue_fixed
  rw [State.pointer_of_fixed hu]
@[simp] theorem State.takeDue_engine : s.takeDue.engine = s.engine := by
  obtain ⟨u, hu⟩ := s.takeDue_fixed
  rw [State.engine_of_fixed hu]
@[simp] theorem State.takeDue_contributions : s.takeDue.contributions = s.contributions := by
  obtain ⟨u, hu⟩ := s.takeDue_fixed
  rw [State.contributions_of_fixed hu]
@[simp] theorem State.takeDue_lineUnit : s.takeDue.lineUnit = s.lineUnit := by
  obtain ⟨u, hu⟩ := s.takeDue_fixed
  rw [State.lineUnit_of_fixed hu]
@[simp] theorem State.takeDue_timeBase : s.takeDue.timeBase = s.timeBase := by
  obtain ⟨u, hu⟩ := s.takeDue_fixed
  rw [State.timeBase_of_fixed hu]
@[simp] theorem State.takeDue_pending : s.takeDue.pending = s.pending := by
  obtain ⟨u, hu⟩ := s.takeDue_fixed
  rw [State.pending_of_fixed hu]

/-! ### expireContributions (R50) -/

@[simp] theorem State.expireContributions_management : s.expireContributions.management = s.management := rfl
@[simp] theorem State.expireContributions_ports : s.expireContributions.ports = s.ports := rfl
@[simp] theorem State.expireContributions_pointer : s.expireContributions.pointer = s.pointer := rfl
@[simp] theorem State.expireContributions_engine : s.expireContributions.engine = s.engine := rfl
@[simp] theorem State.expireContributions_lineUnit : s.expireContributions.lineUnit = s.lineUnit := rfl
@[simp] theorem State.expireContributions_timerUnit : s.expireContributions.timerUnit = s.timerUnit := rfl
@[simp] theorem State.expireContributions_domains : s.expireContributions.domains = s.domains := rfl
@[simp] theorem State.expireContributions_slots : s.expireContributions.slots = s.slots := rfl
@[simp] theorem State.expireContributions_account : s.expireContributions.account = s.account := rfl
@[simp] theorem State.expireContributions_capture : s.expireContributions.capture = s.capture := rfl
@[simp] theorem State.expireContributions_causes : s.expireContributions.causes = s.causes := rfl
@[simp] theorem State.expireContributions_timeBase : s.expireContributions.timeBase = s.timeBase := rfl
@[simp] theorem State.expireContributions_pending : s.expireContributions.pending = s.pending := rfl
@[simp] theorem State.expireContributions_get (g : GroupIx) :
    s.expireContributions.contributions.get g =
      (s.contributions.get g).filter (fun e => !s.windowReached g e.taken) := Tab.get_ofFn _ _

/-! ### countsMs -/

@[simp] theorem State.countsMs_pointer : s.countsMs.pointer = s.pointer := rfl
@[simp] theorem State.countsMs_engine : s.countsMs.engine = s.engine := rfl
@[simp] theorem State.countsMs_contributions : s.countsMs.contributions = s.contributions := rfl
@[simp] theorem State.countsMs_timerUnit : s.countsMs.timerUnit = s.timerUnit := rfl
@[simp] theorem State.countsMs_account : s.countsMs.account = s.account := rfl
@[simp] theorem State.countsMs_capture : s.countsMs.capture = s.capture := rfl
@[simp] theorem State.countsMs_causes : s.countsMs.causes = s.causes := rfl
@[simp] theorem State.countsMs_timeBase : s.countsMs.timeBase = s.timeBase + 1 := rfl
@[simp] theorem State.countsMs_pending : s.countsMs.pending = s.pending := rfl
@[simp] theorem State.countsMs_port (p : Port) : s.countsMs.port p = (s.port p).ms := Tab.get_map _ _ _
@[simp] theorem State.countsMs_dom (d : Domain) : s.countsMs.dom d = (s.dom d).ms := Tab.get_map _ _ _

end Sys2Proof.Machine
end

