-- ==== Sys2Proof/Tests/Slice0.lean ====
section
/-!
SUPPORT. Tests: ill-formed commands that WellFormed refuses, request frames read by hand from section 11 of the manual, one
step of each command with results worked out from the manual (its chapter 12 where it has the case), and for each statement
a state and operands that meet its hypotheses.
-/

namespace Sys2Proof.Tests

set_option Elab.async false

open Sys2Proof.Machine Sys2Proof.Claims

/-! ### Helpers -/

/-- A command answers a next state that passes a test. -/
def does (i : Instr) (s : State) (f : State → Bool) : Bool :=
  match exec i s with
  | .next t => f t
  | _ => false

/-- The newest entry of B's forward queue is a response with these data bytes. -/
def answers (bytes : List Byte) (t : State) : Bool :=
  (t.port Port.B).fwd.getLast? == some (.frame 0x701 bytes false)

/-- The part in PARK of section 12.2, second 200,000: D0 AWAKE at class 3, buffer 0 OPEN, a budget of 300 mAh and Ib 2500,
with D0, D2, D6, D8 and D10 as the table of section 12.1 gives them. -/
def night : State :=
  let d := fun (n : Domain) (p : Port) (ia qr tmin tidle : Nat) =>
    { DomainRec.atReset n with
      params := { DomainParams.atReset n with
        enabled := true, port := p, awakeCurrent := ia, rampCharge := qr, minAwake := tmin, idleTimeout := tidle } }
  { State.reset with
    management := { State.reset.management with mode := .park, epoch := 18, clock := 200000 }
    domains := ((((State.reset.domains.set 0
        { d 0 Port.B 180 0 10 60 with
          state := .awake, enable := true, wakeClass := some 3, idleTimer := .running 60 }).set 2
        (d 2 2 300 20 20 30)).set 6 (d 6 3 800 30 5 10)).set 8 (d 8 6 600 50 10 30)).set 10 (d 10 5 4000 500 300 120)
    slots := SlotArbiter.atReset
    account := { Account.atReset with budget := 300, baseDraw := 2500 }
    capture := { CaptureStore.atReset with
      post := 2
      buffers := CaptureStore.atReset.buffers.set 0 { Buffer.free with state := .opened, epoch := 18 } }
    causes := { records := [], overflow := 0 } }

/-- The state with a record in flight and one row of the active table. -/
def evaluating (s : State) (r : FrameRecord) (i : RowIx) (row : Row) : State :=
  { s with
    engine := { s.engine with
      inFlight := some r
      active := { s.engine.active with rows := (Tab.replicate 128 Row.atReset).set i row } } }

/-- The state with the record of a domain changed. -/
def withDomain (s : State) (d : Domain) (f : DomainRec → DomainRec) : State :=
  { s with domains := s.domains.modify d f }

/-- The state with a Port Unit changed. -/
def withPort (s : State) (p : Port) (f : PortUnit → PortUnit) : State := { s with ports := s.ports.modify p f }

/-- The state with a capture buffer changed. -/
def withBuffer (s : State) (j : Nat) (f : Buffer → Buffer) : State :=
  { s with capture := { s.capture with buffers := s.capture.buffers.modify j f } }

/-- A frame from a segment, recorded for S1 and not delivered. -/
def kept : StoredFrame :=
  { record := frameRecord night 0 0x1A4 [1, 2], forward := 0x04, delivered := 0 }

/-- A cause record of second 200,000. -/
def nightRecord (d : Domain) (c : Cause) (k : WakeClass) (o : WakeOutcome) (j : Option Nat) : CauseRecord where
  second := 200000
  domain := d
  cause := c
  cls := k
  outcome := o
  buffer := j

/-- An attempt that sends `x`. -/
def attemptOf (x : Sending) : Attempt := { sending := x, detached := false, removal := false }

/-! ### Ill-formed commands (R3, R163, section 10.3) -/

theorem test_wf_frame_of_wrong_length :
    (Instr.frameTaken Port.B (.data 0x100 2 [1])).wellFormed = false := by decide

theorem test_wf_frame_of_length_code_nine :
    (Instr.frameTaken Port.B (.data 0x100 9 [1, 2, 3, 4, 5, 6, 7, 8])).wellFormed = true := by decide

theorem test_wf_request_longer_than_a_frame :
    (Instr.identify 1 [0, 0, 0, 0, 0, 0, 0]).wellFormed = false := by decide

theorem test_wf_unknown_request_that_is_known : (Instr.unknownRequest [0x01, 7]).wellFormed = false := by decide

theorem test_wf_unknown_request_longer_than_a_frame :
    (Instr.unknownRequest [0x50, 0, 0, 0, 0, 0, 0, 0, 0]).wellFormed = false := by decide

theorem test_wf_unknown_request : (Instr.unknownRequest [0x50, 7, 1]).wellFormed = true := by decide

/-! ### Request frames by the table of section 11.2 -/

theorem test_decode_management : decodeRequest [0x03, 9, 0, 1, 2, 3] = .setClock 9 [0, 1, 2, 3] := by decide
theorem test_decode_table : decodeRequest [0x0D, 9, 5, 0x0F, 0xFF] = .stageRowWakeSet 9 [5, 0x0F, 0xFF] := by decide
theorem test_decode_domains : decodeRequest [0x1B, 9, 4] = .domainSleep 9 [4] := by decide
theorem test_decode_account : decodeRequest [0x22, 9, 32] = .takeCauses 9 [32] := by decide
theorem test_decode_capture : decodeRequest [0x2A, 9] = .releaseCapture 9 [] := by decide
theorem test_decode_lines : decodeRequest [0x31, 9, 1] = .readLines 9 [1] := by decide
theorem test_decode_timers : decodeRequest [0x33, 9, 7] = .startTimer 9 [7] := by decide
theorem test_decode_ports : decodeRequest [0x39, 9, 6, 0] = .readPortStatus 9 [6, 0] := by decide
theorem test_decode_no_tag : decodeRequest [0x39] = .unknownRequest [0x39] := by decide
theorem test_decode_no_word : decodeTableWord 8 0x01 = none := by decide

/-! ### One step of each command -/

/-- R161, R173: the strap pins give the identifiers 0x700 + 4 × 5. -/
theorem test_powerOnReset : does (.powerOnReset 5) night (fun t => t.requestId == 0x714 && t.mode == .run) = true := by
  decide +kernel

/-- R173: a management reset keeps the clock. -/
theorem test_resetDeadlineExpiry :
    does .resetDeadlineExpiry
      { night with management := { night.management with resetPending := true, resetDeadline := some 1 } }
      (fun t => t.clock == 200000 && t.mode == .run && (t.dom 0).state == .queued) = true := by decide +kernel

/-- R3, R9: the seventeenth frame is counted and lost. -/
theorem test_frameTaken :
    does (.frameTaken 2 (.data 0x2C0 1 [7]))
      (withPort night 2 (fun u => { u with rx := List.replicate 16 (frameRecord night 2 1 []) }))
      (fun t => (t.port 2).received == 1 && (t.port 2).overrun == 1 && (t.port 2).rx.length == 16 &&
        ((t.port 2).rx.map FrameRecord.overrunMark == List.replicate 15 false ++ [true])) = true := by decide +kernel

theorem test_unknownRequest : does (.unknownRequest [0x50, 7]) State.reset (answers [0x50, 7, 2]) = true := by
  decide +kernel

/-- R167, R178: 0x972 and revision 1; seven ports; 12 domains and 16 lines; 8 groups, 8 timers and 128 rows. -/
theorem test_identify :
    does (.identify 7 []) State.reset (answers [0x01, 7, 0, 0x97, 0x21, 0x60, 0xFB, 0x7F]) = true := by decide +kernel

theorem test_readStatus_mode : does (.readStatus 7 [0]) night (answers [0x02, 7, 0, 1, 0, 0, 18]) = true := by
  decide +kernel

/-- R168: D0 QUEUED is code 1 in bits 0 to 2 of the 40-bit value. -/
theorem test_readStatus_domains :
    does (.readStatus 7 [4]) State.reset (answers [0x02, 7, 0, 0, 0, 0, 0, 1]) = true := by decide +kernel

theorem test_setClock :
    does (.setClock 7 [0x12, 0x34, 0x56, 0x78]) State.reset
      (fun t => t.clock == 0x12345678 && answers [0x03, 7, 0, 0x12, 0x34, 0x56, 0x78] t) = true := by decide +kernel

/-- R170: the length nibble is 1, the identifier 0x2C0. -/
theorem test_injectFrame :
    does (.injectFrame 7 [3, 0x12, 0xC0, 0xAA]) State.reset
      (fun t => t.management.injection.map (fun r => (r.source, r.ident, r.data, r.injected)) ==
        [(.port 3, 0x2C0, [0xAA], true)] && answers [0x38, 7, 0, 1] t) = true := by decide +kernel

theorem test_resetPrepare : does (.resetPrepare 7 []) State.reset (fun t => t.management.prepared) = true := by
  decide +kernel

theorem test_reset_sequence : does (.reset 7 []) State.reset (answers [0x3F, 7, 9]) = true := by decide +kernel

/-- Section 12.2: the epoch counts and D0 AWAKE takes class 3 with its idle timer at 60. -/
theorem test_parkEnter :
    does (.parkEnter 7 []) { night with management := { night.management with mode := .run, epoch := 17 } }
      (fun t => t.mode == .park && t.management.epoch == 18 && (t.dom 0).idleTimer == .running 60 &&
        (t.dom 0).minAwakeTimer == none) = true := by decide +kernel

/-- Section 12.8: the five enabled domains are woken with EXIT records. -/
theorem test_parkExit :
    does (.parkExit 7 []) (withDomain night 0 (fun r => { r with state := .winding }))
      (fun t => t.mode == .run && t.slots.queue.map WaitEntry.domain == [2, 6, 8, 10] &&
        t.causes.records.length == 5) = true := by decide +kernel

theorem test_tableWriteEnable : does (.tableWriteEnable 7 []) State.reset (fun t => t.engine.latch) = true := by
  decide +kernel

theorem test_tableWriteDisable_busy :
    does (.tableWriteDisable 7 []) { night with engine := { night.engine with commitPending := true } }
      (answers [0x09, 7, 7]) = true := by decide +kernel

/-- A part whose latch is set. -/
def open_ : State := { State.reset with engine := { State.reset.engine with latch := true } }

/-- Row 1 of section 12.1: valid, PARK, source B, identifier 0x1A4, mask 0x7FF. -/
theorem test_stageRowMatch :
    does (.stageRowMatch 7 [1, 0x82, 0x01, 0x1A, 0x47, 0xFF]) open_
      (fun t => (t.engine.staging.rows.get 1).ident == 0x1A4 && (t.engine.staging.rows.get 1).mask == 0x7FF &&
        (t.engine.staging.rows.get 1).modes == .park && (t.engine.staging.rows.get 1).sources == 1) = true := by
  decide +kernel

theorem test_stageRowDataTest_latch :
    does (.stageRowDataTest 7 [1, 0x80, 1, 2]) State.reset (answers [0x0B, 7, 5]) = true := by decide +kernel

theorem test_stageRowAction :
    does (.stageRowAction 7 [40, 0, 0x11, 2]) open_
      (fun t => (t.engine.staging.rows.get 40).group == some 2 && (t.engine.staging.rows.get 40).record) = true := by
  decide +kernel

theorem test_stageRowWakeSet :
    does (.stageRowWakeSet 7 [50, 0, 0x40]) open_ (fun t => (t.engine.staging.rows.get 50).wake == 0x040) = true := by
  decide +kernel

/-- G2 of section 12.1: threshold 3, window 2000, class 1, D0 and D8. -/
theorem test_stageGroup :
    does (.stageGroup 7 [2, 0x93, 0x07, 0xD0, 0x01, 0x01]) open_
      (fun t => t.engine.staging.groups.get 2 ==
        { enabled := true, threshold := 3, window := 2000, cls := 1, wake := 0x101 }) = true := by decide +kernel

theorem test_commitTable :
    does (.commitTable 7 []) open_ (fun t => !t.engine.latch && !t.engine.commitPending) = true := by decide +kernel

theorem test_commitCompletion :
    does .commitCompletion { open_ with engine := { open_.engine with commitPending := true } }
      (fun t => !t.engine.latch && !t.engine.commitPending) = true := by decide +kernel

/-- R44: row 0 of the default table is valid, BOTH, every port and L, identifier 0, mask 0. -/
theorem test_readRowPart :
    does (.readRowPart 7 [0, 0, 0]) State.reset (answers [0x10, 7, 0, 0x83, 0xFF, 0, 0, 0]) = true := by decide +kernel

theorem test_readHits_last_row : does (.readHits 7 [127]) State.reset (answers [0x11, 7, 0, 0, 0, 0, 0]) = true := by
  decide +kernel

theorem test_setProtectBoundary :
    does (.setProtectBoundary 7 [128]) State.reset (fun t => t.engine.boundary == 128) = true := by decide +kernel

/-- R74: an idle timeout of 0 is brought to 1 and answered CLAMPED. -/
theorem test_setDomainParameter_clamped :
    does (.setDomainParameter 7 [2, 7, 0, 0, 0, 0]) State.reset (answers [0x18, 7, 1, 7, 0, 1, 0, 0]) = true := by
  decide +kernel

/-- R74: D0 is attached to B alone. -/
theorem test_setDomainParameter_port :
    does (.setDomainParameter 7 [2, 1, 0, 0, 0, 0]) State.reset (answers [0x18, 7, 4]) = true := by decide +kernel

theorem test_readDomain : does (.readDomain 7 [0, 0, 0]) State.reset (answers [0x19, 7, 0, 1, 0, 0, 4]) = true := by
  decide +kernel

/-- Section 12.3: D2 at class 2 is admitted with 1,064,053,800 left, its tokens fall to 3 and 1800 seconds run. -/
theorem test_domainWake :
    does (.domainWake 7 [2, 2]) { night with account := { night.account with spent := 15946200 } }
      (fun t => t.tokens 2 == { tokens := 3, countdown := some 1800 } && answers [0x1A, 7, 0, 0, 0] t) = true := by
  decide +kernel

/-- Section 12.7: the cost of D10 is above R. -/
theorem test_domainWake_refused :
    does (.domainWake 7 [10, 2])
      { night with account := { night.account with spent := 648789810, tier := .reduced } }
      (answers [0x1A, 7, 0, 6, 0xFF]) = true := by decide +kernel

theorem test_domainSleep :
    does (.domainSleep 7 [0]) night
      (fun t => (t.dom 0).state == .winding && (t.dom 0).sleepReason == some .mgmt) = true := by decide +kernel

theorem test_domainClearFault : does (.domainClearFault 7 [0]) night (answers [0x1C, 7, 8]) = true := by decide +kernel

theorem test_setSlots :
    does (.setSlots 7 [5]) State.reset (answers [0x1D, 7, 1, 4, 0, 0, 1, 0]) = true := by decide +kernel

/-- Section 12.1: 300 mAh, t1 40, t2 15, Ib 2500. -/
theorem test_setBudget :
    does (.setBudget 7 [0x01, 0x2C, 40, 15, 0x09, 0xC4]) State.reset
      (fun t => t.account.budget == 300 && t.account.baseDraw == 2500 && answers [0x20, 7, 0, 40, 15, 0, 1, 0x2C] t)
      = true := by decide +kernel

/-- R122: the draw of section 12.2, 182,830 = 0x0002CA2E. -/
theorem test_readAccount :
    does (.readAccount 7 [3, 0, 1]) night (answers [0x21, 7, 0, 0x00, 0x02, 0xCA, 0x2E]) = true := by decide +kernel

/-- Section 12.8: 30 records, n = 32 and 24 free places give 23 taken and 7 left. -/
theorem test_takeCauses :
    does (.takeCauses 7 [32]) { night with causes := { records := List.replicate 30 resetCause, overflow := 0 } }
      (fun t => t.causes.records.length == 7 && (t.port Port.B).fwd.length == 24 &&
        (t.port Port.B).fwd.head? == some (.frame 0x701 [0x22, 7, 0, 23, 7, 0] false)) = true := by decide +kernel

theorem test_setCaptureMode :
    does (.setCaptureMode 7 [0, 200]) State.reset
      (fun t => t.capture.buffers.length == 32 && answers [0x28, 7, 1, 0, 15] t) = true := by decide +kernel

theorem test_readCaptureDescriptor :
    does (.readCaptureDescriptor 7 [1, 0, 0]) night (answers [0x29, 7, 0, 1, 0, 0xFF, 0, 0]) = true := by
  decide +kernel

/-- A night whose buffer 0 is CLOSED with two frames for S1, and whose buffer 1 is OPEN. -/
def closedNight : State :=
  withBuffer
    (withBuffer { night with capture := { night.capture with writePtr := 1 } } 0 (fun b =>
      { b with state := .closed, slots := [kept, kept], stop := some 1, pending := 0x04, woken := 0x004 })) 1
    (fun b => { b with state := .opened, epoch := 18 })

theorem test_readCaptureFrame :
    does (.readCaptureFrame 7 [0, 1, 0]) closedNight (answers [0x2B, 7, 0, 0, 0x21, 0xA4, 0x04, 0]) = true := by
  decide +kernel

/-- R155: two frames were still due on S1. -/
theorem test_releaseCapture :
    does (.releaseCapture 7 []) closedNight
      (fun t => (t.buffer 0).state == .done && (t.buffer 0).skipped == 2 && answers [0x2A, 7, 0, 0, 0, 2] t) = true := by
  decide +kernel

theorem test_configureLine :
    does (.configureLine 7 [2, 2, 3, 0]) night
      (fun t => (t.lineUnit.lines.get 2).role == .ignition && t.lineUnit.period == 10) = true := by decide +kernel

/-- R56, R178: after a reset every line is UNKNOWN and the period is 10. -/
theorem test_readLines : does (.readLines 7 [0]) State.reset (answers [0x31, 7, 0, 0, 0, 0xFF, 0xFF, 10]) = true := by
  decide +kernel

theorem test_configureTimer :
    does (.configureTimer 7 [0, 0x41, 0, 0]) State.reset (answers [0x32, 7, 1, 5, 0, 0, 0, 0]) = true := by
  decide +kernel

theorem test_startTimer : does (.startTimer 7 [0]) State.reset (answers [0x33, 7, 0, 2, 0, 60, 0, 0]) = true := by
  decide +kernel

theorem test_stopTimer : does (.stopTimer 7 [8]) State.reset (answers [0x34, 7, 3]) = true := by decide +kernel

/-- The request itself is the one frame received. -/
theorem test_readPortStatus :
    does (.readPortStatus 7 [0, 1]) State.reset (answers [0x39, 7, 0, 0, 1, 0, 0, 0]) = true := by decide +kernel

/-- R21: with the pointer at S0, a record of S1 goes before one of B. -/
theorem test_matchGrant :
    does .matchGrant
      { withPort (withPort night 0 (fun u => { u with rx := [frameRecord night 0 1 []] })) 2
          (fun u => { u with rx := [frameRecord night 2 2 []] }) with pointer := 1 }
      (fun t => t.pointer == 3 && t.engine.inFlight.map FrameRecord.ident == some 2 && (t.port 0).rx.length == 1) = true
      := by decide +kernel

/-- Section 12.3, frame b: it is recorded first, and then D2 is woken and buffer 0 is POST with post remaining 2. -/
theorem test_evaluationCompletion :
    does .evaluationCompletion
      (evaluating night (frameRecord night 0 0x1A4 []) 1
        { Row.atReset with
          valid := true, sources := 1, ident := 0x1A4, modes := .park, wake := 0x004, cls := 2, record := true })
      (fun t => (t.buffer 0).state == .post && (t.buffer 0).postLeft == 2 && (t.buffer 0).slots.length == 1 &&
        (t.buffer 0).woken == 0x004 && (t.buffer 0).pending == 0x04 && (t.dom 2).wakeClass == some 2 &&
        t.causes.records == [nightRecord 2 (.rule 1) 2 .admitted (some 0)]) = true := by decide +kernel

/-- Section 12.4: the third contribution fires G2, which wakes D8 and merges with D0. -/
theorem test_evaluationCompletion_group :
    does .evaluationCompletion
      (evaluating
        { night with
          contributions := night.contributions.set 2 [{ row := 40, taken := 200 }, { row := 41, taken := 900 }]
          engine := { night.engine with
            active := { night.engine.active with
              groups := night.engine.active.groups.set 2
                { enabled := true, threshold := 3, window := 2000, cls := 1, wake := 0x101 } } } }
        (frameRecord night 4 0x3B2 []) 42
        { Row.atReset with valid := true, sources := 0x10, ident := 0x3B2, group := some 2, record := true })
      (fun t => t.contributions.get 2 == [] && (t.dom 8).state == .queued && (t.dom 0).wakeClass == some 1 &&
        t.causes.records.map CauseRecord.cause == [.group 2, .group 2]) = true := by decide +kernel

/-- D2 of section 12.3 waiting for its slot. -/
def waiting : State :=
  { withDomain night 2 (fun r => { r with state := .queued, wakeClass := some 2 }) with
    slots := { SlotArbiter.atReset with queue := [{ domain := 2, cls := 2, join := 0 }], nextJoin := 1 } }

/-- Section 12.3: the grant adds 20,000 to A. -/
theorem test_slotGrant :
    does .slotGrant waiting
      (fun t => t.account.spent == 20000 && (t.dom 2).state == .powering && (t.dom 2).readyTimer == some 2000 &&
        (t.dom 2).enable) = true := by decide +kernel

/-- D2 POWERING, in its slot. -/
def powering2 : State :=
  { withDomain night 2 (fun r =>
      { r with state := .powering, enable := true, wakeClass := some 2, slotHeld := true, readyTimer := some 1 }) with
    slots := { SlotArbiter.atReset with holders := SlotArbiter.atReset.holders.set 2 (some .powering) } }

/-- Section 12.3: D2 becomes AWAKE, S1 becomes ACTIVE, and the slot hold of 0 frees the slot. -/
theorem test_readyTimerExpiry :
    does (.readyTimerExpiry 2) powering2
      (fun t => (t.dom 2).state == .awake && (t.port 2).active && t.slots.holders.get 2 == none) = true := by
  decide +kernel

/-- D2 POWERING in ready mode ANNOUNCE with one retry used. -/
def announcing2 : State :=
  withDomain powering2 2 (fun r =>
    { r with retriesUsed := 1, params := { r.params with readyMode := .announce, announceId := some 0x10 } })

/-- R81: the ready retries of 1 are used up. -/
theorem test_readyTimerExpiry_fails :
    does (.readyTimerExpiry 2) announcing2
      (fun t => (t.dom 2).state == .fault && !(t.dom 2).enable &&
        t.causes.records == [nightRecord 2 .ready 2 .failed none]) = true := by decide +kernel

/-- D0 AWAKE with a slot hold in its last millisecond. -/
def holding : State :=
  { withDomain night 0 (fun r => { r with slotHeld := true }) with
    slots := { SlotArbiter.atReset with holders := SlotArbiter.atReset.holders.set 0 (some (.hold 1)) } }

theorem test_holdExpiry :
    does (.holdExpiry 0) holding (fun t => t.slots.holders.get 0 == none && !(t.dom 0).slotHeld) = true := by
  decide +kernel

/-- D0 of section 12.2 at the park second that brings its idle timer to 0, with notice identifier 0x120. -/
def idling : State :=
  withDomain night 0 (fun r =>
    { r with idleTimer := .running 0, params := { r.params with noticeId := some 0x120 } })

/-- Section 12.2: D0 goes to WINDING, and its notice 0x120 is queued on B. -/
theorem test_idleExpiry :
    does (.idleExpiry 0) idling
      (fun t => (t.dom 0).state == .winding && (t.dom 0).notice == .sleepQueued &&
        (t.port 0).fwd == [.notice 0 0x120 (.sleep .idle)]) = true := by decide +kernel

/-- D0 of section 12.2 with its idle timer expired, at the park second that brings its min-awake timer to 0. -/
def elapsing : State := withDomain night 0 (fun r => { r with idleTimer := .expired, minAwakeTimer := some 0 })

/-- R87, R89: without a notice identifier the wind timer starts at once. -/
theorem test_minAwakeElapse :
    does (.minAwakeElapse 0) elapsing (fun t => (t.dom 0).state == .winding && (t.dom 0).windTimer == some 2000) = true
    := by decide +kernel

/-- D0 WINDING with its wind timer running and its notice standing in B's queue. -/
def winding0 : State :=
  withPort
    (withDomain night 0 (fun r =>
      { r with
        state := .winding, idleTimer := .stopped, sleepReason := some .idle, windTimer := some 1, notice := .sleepQueued,
        params := { r.params with noticeId := some 0x120, sleepReadyId := some 0x121 } })) 0
    (fun u => { u with active := true, fwd := [.notice 0 0x120 (.sleep .idle)] })

/-- Section 12.6: the notice is withdrawn unsent, the forced sleep is counted, and the port listens. -/
theorem test_windExpiry :
    does (.windExpiry 0) winding0
      (fun t => (t.dom 0).state == .asleep && (t.dom 0).forcedSleep == 1 && (t.dom 0).notice == .none &&
        (t.port 0).fwd == [] && !(t.port 0).active) = true := by decide +kernel

theorem test_transmissionStart :
    does (.transmissionStart 0) winding0 (fun t => (t.port 0).attempt == some (attemptOf .queueHead)) = true := by
  decide +kernel

/-- The notice of D0 in transmission for the eighth time. -/
def failing : State :=
  withPort (withDomain winding0 0 (fun r => { r with windTimer := none })) 0
    (fun u => { u with attempt := some (attemptOf .queueHead), failures := 7 })

/-- Section 12.6: the eighth failure makes the port BLOCKED and starts the wind timer. -/
theorem test_transmissionEnd_failure :
    does (.transmissionEnd 0 .failure) failing
      (fun t => (t.port 0).blocked && (t.port 0).recovery == some 1000 && (t.dom 0).windTimer == some 2000 &&
        (t.port 0).fwd.length == 1) = true := by decide +kernel

/-- Section 12.2: the notice is transmitted, and the wind time of 2000 ms runs. -/
theorem test_transmissionEnd_success :
    does (.transmissionEnd 0 .success) failing
      (fun t => (t.dom 0).notice == .sleepSent && (t.dom 0).windTimer == some 2000 && (t.port 0).fwd == [] &&
        (t.port 0).failures == 0) = true := by decide +kernel

/-- Port B BLOCKED with its recovery timer in its last millisecond. -/
def blockedB : State := withPort night 0 (fun u => { u with blocked := true, recovery := some 1, failures := 8 })

theorem test_recoveryTimerExpiry :
    does (.recoveryTimerExpiry 0) blockedB (fun t => !(t.port 0).blocked && (t.port 0).failures == 0) = true := by
  decide +kernel

/-- Section 12.3: D2 is AWAKE and S1 ACTIVE, with buffer 0 CLOSED and S1 pending. -/
def replaying : State :=
  withPort (withDomain closedNight 2 (fun r => { r with state := .awake, enable := true, wakeClass := some 2 })) 2
    (fun u => { u with active := true })

theorem test_replayStart : does (.replayStart 2) replaying (fun t => (t.port 2).replay == some 0) = true := by
  decide +kernel

/-- The second frame of buffer 0 in transmission on S1, the first delivered. -/
def lastReplay : State :=
  withBuffer
    (withPort replaying 2 (fun u => { u with replay := some 0, attempt := some (attemptOf (.replay 0 1)) })) 0
    (fun b => { b with slots := [{ kept with delivered := 0x04 }, kept] })

/-- Section 12.3: when the last frame succeeds the replay ends and the buffer becomes DONE. -/
theorem test_transmissionEnd_replay :
    does (.transmissionEnd 2 .success) lastReplay
      (fun t => (t.buffer 0).state == .done && (t.port 2).replay == none && (t.buffer 0).pending == 0 &&
        (t.buffer 0).slots.map StoredFrame.delivered == [0x04, 0x04]) = true := by decide +kernel

/-- Buffer 0 DONE at the read pointer. -/
def doneNight : State := withBuffer closedNight 0 (fun b => { b with state := .done, pending := 0 })

theorem test_bufferFree :
    does .bufferFree doneNight (fun t => t.buffer 0 == Buffer.free && t.capture.readPtr == 1) = true := by
  decide +kernel

/-- The night at a moment, with group G2 of section 12.1 and its contributions of section 12.4: row 40 at 1800 and row 41 at
2300 of a window of 2000. -/
def contributed (now : Nat) : State :=
  { night with
    timeBase := now
    contributions := night.contributions.set 2 [{ row := 40, taken := 1800 }, { row := 41, taken := 2300 }]
    engine := { night.engine with
      active := { night.engine.active with
        groups := night.engine.active.groups.set 2
          { enabled := true, threshold := 3, window := 2000, cls := 1, wake := 0x101 } } } }

/-- Section 12.4: the entry of row 40 expires when its age is 2000. -/
theorem test_contributionExpiry :
    does (.contributionExpiry 2 1800) (contributed 3800)
      (fun t => t.contributions.get 2 == [{ row := 41, taken := 2300 }]) = true := by decide +kernel

/-- R50: an entry whose age is below the window stays. -/
theorem test_contributionExpiry_early :
    does (.contributionExpiry 2 1800) (contributed 3799) (fun t => (t.contributions.get 2).length == 2) = true := by
  decide +kernel

/-- Line 2, the IGNITION line at level 0 with a previous sample of 1, and line 3 likewise a WAKE line. -/
def sampling : State :=
  { night with
    lineUnit := { night.lineUnit with
      lines := (night.lineUnit.lines.set 2
          { LineRec.atReset with role := .ignition, level := some false, previous := some true }).set 3
          { LineRec.atReset with level := some false, previous := some true } } }

/-- Section 12.8: the accepted rising change of line 2 brings about Park Exit; line 3 makes a line event. -/
theorem test_lineSample :
    does (.lineSample 0x000C) sampling
      (fun t => t.mode == .run && t.slots.queue.map WaitEntry.domain == [2, 6, 8, 10] &&
        t.lineUnit.queue.map (fun r => (r.ident, r.data)) == [(3, [1])]) = true := by decide +kernel

/-- Section 12.2: the second adds 182,830. -/
theorem test_parkSecond :
    does .parkSecond night
      (fun t => t.account.spent == 182830 && t.clock == 200001 && (t.dom 0).idleTimer == .running 59) = true := by
  decide +kernel

/-- Section 12.6: at second 8611 the tier becomes REDUCED and D6 AWAKE at class 3 is shed. -/
theorem test_parkSecond_sheds :
    does .parkSecond
      (withDomain
        (withDomain { night with account := { night.account with spent := 647986980 } } 0
          (fun r => { r with state := .asleep, enable := false, wakeClass := none })) 6
        (fun r => { r with state := .awake, enable := true, wakeClass := some 3, idleTimer := .running 5 }))
      (fun t => t.account.spent == 648789810 && t.account.tier == .reduced && (t.dom 6).state == .winding &&
        (t.dom 6).sleepReason == some .shed && t.causes.records.map CauseRecord.outcome == [.shed]) = true := by
  decide +kernel

/-- D6 of section 12.5 with no token, at the park second that brings its countdown of 3600 seconds to 0. -/
def refilling : State :=
  { withDomain night 6 (fun r => { r with params := { r.params with tokenCap := 2, refill := 60 } }) with
    account := { night.account with tokens := night.account.tokens.set 6 { tokens := 0, countdown := some 0 } } }

theorem test_refillExpiry :
    does (.refillExpiry 6) refilling (fun t => t.tokens 6 == { tokens := 1, countdown := some 3600 }) = true := by
  decide +kernel

/-- R134: the expiries of D2 and D8, due with that of D6, stand before it and after it. -/
theorem test_refillExpiry_ascending :
    does (.refillExpiry 6)
      { refilling with
        account := { refilling.account with
          tokens := (refilling.account.tokens.set 2 { tokens := 3, countdown := some 0 }).set 8
            { tokens := 0, countdown := some 0 } } }
      (fun t => t.tokens 2 == { tokens := 4, countdown := none } && (t.tokens 6).tokens == 1 &&
        t.tokens 8 == { tokens := 0, countdown := some 0 }) = true := by
  decide +kernel

/-- Timer 0 of section 12.7, ONE_SHOT, at the park second that brings it to 0. -/
def expiring : State :=
  { night with
    timerUnit := { night.timerUnit with
      timers := night.timerUnit.timers.set 0 { TimerRec.atReset with running := true, remaining := 0 } } }

/-- Section 12.7: the event has data byte 0 equal to 1. -/
theorem test_timerExpiry :
    does (.timerExpiry 0) expiring
      (fun t => t.timerUnit.queue.map (fun r => (r.ident, r.data)) == [(0, [1])] && !(t.timer 0).running) = true := by
  decide +kernel

/-- R65: a park second brings a timer of preload 1 to 0, and its expiry is due only then. -/
theorem test_timerExpiry_preload_one :
    does (.timerExpiry 0)
      { expiring with
        timerUnit := { expiring.timerUnit with
          timers := expiring.timerUnit.timers.set 0 { TimerRec.atReset with running := true, remaining := 1 } } }
      (fun t => (t.timer 0).running && t.timerUnit.queue == []) = true := by decide +kernel

/-! ### States and operands that meet the hypotheses of the statements

Each theorem is named after the statement; a statement whose clauses have ranges of their own has a witness at their
boundary values. -/

theorem test_witness_AnIdleStepIsOneMillisecond : night.pending = [] ∧ NothingDue night := by decide +kernel

/-- A state of the night with a command to take. -/
def going : State := { lastReplay with pending := [.transmissionEnd 2 .success] }

/-- A step answers a next state. -/
def goes (s : State) : Bool :=
  match step s with
  | .next _ => true
  | _ => false

theorem test_witness_TheActiveTableChangesOnlyAtCommitOrReset : does (.commitTable 7 []) open_ (fun _ => true) = true := by
  decide +kernel

theorem test_witness_EnableLinesAndPortsFollowTheDomains :
    going.EnableFollows ∧ going.AttachmentsFit ∧ going.PortsFollow ∧ going.BlockingFits ∧ goes going = true := by
  decide +kernel

theorem test_witness_QueuesAndCountersStayInRange : going.QueuesFit ∧ going.CountersFit ∧ goes going = true := by
  decide +kernel

/-- D0 of section 12.2 AWAKE again with its idle timer at 0 while its cancel notice stands in B's queue. -/
def cancelling : State :=
  withPort (withDomain idling 0 (fun r => { r with notice := .cancelQueued })) 0
    (fun u => { u with fwd := [.notice 0 0x120 .cancel] })

/-- D0 WINDING again while the attempt that sends its withdrawn sleep notice runs, the eighth failure to come. -/
def removing : State :=
  withPort (withDomain winding0 0 (fun r => { r with notice := .withdrawingSleep })) 0
    (fun u => { u with attempt := some { sending := .queueHead, detached := false, removal := true }, failures := 7 })

/-- D0 WINDING with its sleep notice sent. -/
def notified : State :=
  withPort (withDomain winding0 0 (fun r => { r with notice := .sleepSent })) 0 (fun u => { u with fwd := [] })

theorem test_notices_night : night.NoticesFit := by refine ⟨?_, ?_, ?_, ?_⟩ <;> decide +kernel
theorem test_notices_reset : State.reset.NoticesFit := by refine ⟨?_, ?_, ?_, ?_⟩ <;> decide +kernel
theorem test_notices_winding0 : winding0.NoticesFit := by refine ⟨?_, ?_, ?_, ?_⟩ <;> decide +kernel
theorem test_notices_notified : notified.NoticesFit := by refine ⟨?_, ?_, ?_, ?_⟩ <;> decide +kernel
theorem test_notices_cancelling : cancelling.NoticesFit := by refine ⟨?_, ?_, ?_, ?_⟩ <;> decide +kernel
theorem test_notices_removing : removing.NoticesFit := by refine ⟨?_, ?_, ?_, ?_⟩ <;> decide +kernel
theorem test_notices_idling : idling.NoticesFit := by refine ⟨?_, ?_, ?_, ?_⟩ <;> decide +kernel
theorem test_notices_elapsing : elapsing.NoticesFit := by refine ⟨?_, ?_, ?_, ?_⟩ <;> decide +kernel
theorem test_notices_powering2 : powering2.NoticesFit := by refine ⟨?_, ?_, ?_, ?_⟩ <;> decide +kernel
theorem test_notices_announcing2 : announcing2.NoticesFit := by refine ⟨?_, ?_, ?_, ?_⟩ <;> decide +kernel

theorem test_witness_QueuesAndCountersStayInRange_notices :
    (removing.ClassesFit ∧ removing.HoldersFit ∧ removing.WaitQueueFits ∧
      goes { removing with pending := [.transmissionEnd 0 .failure] } = true) ∧ removing.NoticesFit :=
  ⟨by decide +kernel, test_notices_removing⟩

theorem test_witness_QueuesAndCountersStayInRange_contributions :
    (contributed 3800).ContributionsFit ∧ goes (contributed 3800) = true := by decide +kernel

/-- A part whose row 0 is protected. -/
def protected0 : State := { open_ with engine := { open_.engine with boundary := 1 }, pending := [.commitTable 7 []] }

theorem test_witness_ProtectedRowsAndTheLatchHold :
    protected0.ProtectedRowsAgree ∧ protected0.LatchFits ∧ goes protected0 = true ∧
      does (.commitTable 7 []) protected0 (fun _ => true) = true := by decide +kernel

theorem test_witness_SlotsFollowTheDomains :
    waiting.ClassesFit ∧ waiting.HoldersFit ∧ waiting.WaitQueueFits ∧ waiting.SlotsFit ∧
      goes { waiting with pending := [.slotGrant] } = true := by decide +kernel

theorem test_witness_TheTierIsPrescribedAndShedComplete :
    waiting.TierFits ∧ waiting.account.spent ≤ Config.chargeMax ∧ waiting.ClassesFit ∧ waiting.HoldersFit ∧
      waiting.WaitQueueFits ∧ waiting.ShedComplete ∧ goes { waiting with pending := [.slotGrant] } = true := by
  decide +kernel

theorem test_witness_TokensStayWithinTheirCap :
    refilling.TokensFit ∧ goes { refilling with pending := [.refillExpiry 6] } = true := by decide +kernel

theorem test_witness_BuffersAndReplaysStayTogether :
    going.StoreFits ∧ going.RecordingFits ∧ going.ClosedPending ∧ going.DeliveredFits ∧ going.ReplaysFit ∧
      goes going = true := by decide +kernel

theorem test_witness_RequestsReadBackFromTheirFrames :
    (Instr.setClock 9 [0, 1, 2, 3]).wellFormed = true ∧
      requestBytes (.setClock 9 [0, 1, 2, 3]) = some [0x03, 9, 0, 1, 2, 3] := by decide

theorem test_witness_ARequestFrameIsItsRequest :
    (Instr.setBudget 9 [1, 2, 3, 4, 5, 6]).wellFormed = true ∧
      requestBytes (.setBudget 9 [1, 2, 3, 4, 5, 6]) = some [0x20, 9, 1, 2, 3, 4, 5, 6] ∧
      (BusFrame.data State.reset.requestId 15 [0x20, 9, 1, 2, 3, 4, 5, 6]).wellFormed = true := by decide +kernel

theorem test_witness_RequestsAreNotExecutedInListenOrResetPending :
    (Instr.identify 9 []).wellFormed = true ∧ requestBytes (.identify 9 []) = some [0x01, 9] ∧
      ((withPort night 0 (fun u => { u with active := false })).port Port.B).active = false ∧
      (State.reset.port Port.B).active = true ∧
      ({ State.reset with management := { State.reset.management with resetPending := true } } : State
        ).management.resetPending = true := by decide +kernel

theorem test_witness_RequestsAreCheckedForTheirLength :
    request (.setClock 7 [0, 1, 2]) = some (0x03, 7, [0, 1, 2], 4) ∧ Executes night ∧
      request (.domainWake 7 [0, 1, 2]) = some (0x1A, 7, [0, 1, 2], 1) ∧
      (Instr.unknownRequest (0x50 :: 7 :: [])).wellFormed = true := by decide +kernel

theorem test_witness_IdentifyAndReadStatusReportThePart : Executes State.reset ∧ Executes night := by decide +kernel

theorem test_witness_SetClockAndInjectFrame :
    Executes night ∧ 7 ≤ (7 : Byte).toNat ∧ (6 : Port).val = (6 : Byte).toNat := by decide +kernel

theorem test_witness_ResetNeedsThePreparedFlag :
    Executes State.reset ∧
      Executes { State.reset with management := { State.reset.management with prepared := true } } := by decide +kernel

theorem test_witness_ResetsSetEveryBlock :
    does .parkSecond night (fun _ => true) = true ∧ ∀ strap, Instr.parkSecond ≠ .powerOnReset strap := by
  decide +kernel

theorem test_witness_ParkEnterSetsThePartUpForThePark :
    Executes State.reset ∧ State.reset.PortsFollow ∧ State.reset.mode = .run ∧ State.reset.account.budget ≠ 0 ∧
      1 ≤ State.reset.account.upper ∧ State.reset.account.upper ≤ 99 ∧
      State.reset.account.lower < State.reset.account.upper := by decide +kernel

theorem test_witness_ParkEnterWithoutBudgetShedsEveryDomain :
    Executes State.reset ∧ State.reset.mode = .run ∧
      ({ State.reset with account := { State.reset.account with budget := 0 } } : State).account.budget = 0 := by
  decide +kernel

/-- The night with buffer 0 waiting for one post frame for S1, which D2 is to have, and D2 QUEUED. -/
def posting : State :=
  withBuffer waiting 0 (fun b =>
    { b with
      state := .post, postLeft := 1, slots := [kept], stop := some 0, trigger := some (.rule 1), pending := 0x04,
      woken := 0x004 })

theorem test_witness_ParkExitWakesTheBody :
    Executes night ∧ night.mode = .park ∧ Executes State.reset ∧ State.reset.mode = .run ∧
      (night.dom 2).params.enabled = true ∧ (night.dom 2).state = .asleep ∧ (winding0.dom 0).params.enabled = true ∧
      (winding0.dom 0).state = .winding ∧ (night.dom 1).params.enabled = false ∧
      night.capture.writePtr < night.capture.buffers.length ∧ (night.buffer night.capture.writePtr).state = .opened ∧
      (night.port Port.B).frameEntries < 24 ∧ night.PortsFollow ∧ Executes posting ∧ posting.mode = .park ∧
      posting.PortsFollow ∧ (posting.buffer posting.capture.writePtr).state = .post := by decide +kernel

theorem test_witness_LatchRequestsSetAndClearTheLatch : Executes open_ := by decide +kernel

theorem test_witness_StageRowRequestsWriteTheirParts :
    Executes open_ ∧ StagingOpen open_ 0 ∧ StagingOpen open_ 127 ∧ StagingOpen protected0 1 ∧
      (0x87 : Byte).toNat % 16 = (7 : Fin 8).val ∧ 8 ≤ (0x88 : Byte).toNat % 16 := by decide +kernel

theorem test_witness_RowWritesAreRefusedInOrder :
    Executes protected0 ∧ 5 ≤ ([0, 0, 0, 0, 0] : List Byte).length ∧
      (0x0A, Instr.stageRowMatch 7 [127, 0, 0, 0, 0, 0]) ∈ rowWrites 7 [127, 0, 0, 0, 0, 0] ∧
      128 ≤ (128 : Byte).toNat ∧ (127 : Byte).toNat < 128 ∧ State.reset.engine.latch = false ∧
      protected0.engine.latch = true ∧ (0 : Byte).toNat < protected0.engine.boundary ∧
      ({ open_ with engine := { open_.engine with commitPending := true } } : State).engine.commitPending = true := by
  decide +kernel

theorem test_witness_StageGroupWritesTheDefinition :
    Executes open_ ∧ 8 ≤ (8 : Byte).toNat ∧ (7 : GroupIx).val = (7 : Byte).toNat ∧
      3 < (0x40 : Byte).toNat / 16 % 8 ∧ (3 : WakeClass).val = (0x30 : Byte).toNat / 16 % 8 := by decide +kernel

theorem test_witness_CommitCopiesTheStagingCopy : Executes open_ ∧ open_.engine.inFlight = none := by decide +kernel

theorem test_witness_ReadRowPartAndReadHitsReportTheTable :
    Executes State.reset ∧ 128 ≤ (128 : Byte).toNat ∧ (127 : RowIx).val = (127 : Byte).toNat ∧
      (126 : RowIx).val = (126 : Byte).toNat ∧ (127 : RowIx).val = (126 : RowIx).val + 1 ∧
      (4 < (5 : Byte).toNat ∧ (1 : Byte).toNat ≤ 1) ∧ ((4 : Byte).toNat = 4 ∧ 8 ≤ (8 : Byte).toNat) ∧
      1 < (2 : Byte).toNat := by decide +kernel

theorem test_witness_SetProtectBoundaryRaisesTheBoundary : Executes protected0 := by decide +kernel

theorem test_witness_NumericParametersAreClamped :
    Executes State.reset ∧ numericRange (3 : Byte).toNat = some (0, 4095) ∧
      numericRange (18 : Byte).toNat = some (1, 1440) := by decide +kernel

theorem test_witness_IdentifierPortAndReadyModeParameters :
    Executes State.reset ∧ 12 ≤ (12 : Byte).toNat ∧ (16 : Byte).toNat ≤ 16 ∧
      ((0 : Domain) = Domain.D0 ↔ Port.B = Port.B) ∧ ((11 : Domain) = Domain.D0 ↔ (6 : Port) = Port.B) ∧
      12 ≤ (12 : Byte).toNat ∧ 18 < (19 : Byte).toNat ∧ (11 : Byte).toNat < 12 ∧ 1 < (2 : BitVec 16).toNat := by
  decide +kernel

theorem test_witness_DisablingADomainPutsItAsleep :
    (Executes winding0 ∧ (winding0.dom 0).params.enabled = true ∧ (winding0.dom 0).state ≠ .asleep ∧
      winding0.AttachmentsFit ∧ winding0.PortsFollow ∧ (winding0.port Port.B).frameEntries < 24) ∧
      winding0.NoticesFit :=
  ⟨by decide +kernel, test_notices_winding0⟩

theorem test_witness_ReadDomainReportsItsPart :
    Executes night ∧ 12 ≤ (12 : Byte).toNat ∧ 3 < (4 : Byte).toNat := by decide +kernel

theorem test_witness_DomainWakeIsJudgedInOrder :
    Executes night ∧ night.RecordingFits ∧ night.ClassesFit ∧ refused (outcomeOf night 1 0) ∧
      refused (outcomeOf night 10 3) ∧ outcomeOf night 0 0 = .merged ∧ (night.dom 0).state = .awake ∧
      outcomeOf (withDomain night 0 (fun r => { r with state := .queued })) 0 3 = .merged ∧ 12 ≤ (12 : Byte).toNat ∧
      (3 : Byte).toNat ≤ 3 ∧ (11 : Byte).toNat < 12 ∧ 3 < (4 : Byte).toNat := by decide +kernel

/-- The part after reset with D2 enabled on port 2. -/
def enabled2 : State :=
  withDomain State.reset 2 (fun r => { r with params := { r.params with enabled := true, port := 2 } })

theorem test_witness_AnAdmittedDomainWakeQueuesTheDomain :
    Executes enabled2 ∧ enabled2.PortsFollow ∧ enabled2.RecordingFits ∧ enabled2.mode = .run ∧
      (enabled2.dom 2).params.enabled = true ∧ (enabled2.dom 2).state = .asleep := by decide +kernel

theorem test_witness_AnAdmittedDomainWakeQueuesTheDomain_park :
    Executes night ∧ night.PortsFollow ∧ night.RecordingFits ∧ (night.dom 2).state = .asleep ∧
      outcomeOf night 2 2 = .admitted ∧ outcomeOf night 2 0 = .admitted ∧
      (night.buffer night.capture.writePtr).state = .opened := by decide +kernel

theorem test_witness_AnAdmittedDomainWakeQueuesTheDomain_winding :
    (Executes winding0 ∧ winding0.PortsFollow ∧ winding0.RecordingFits ∧ (winding0.dom 0).state = .winding ∧
      outcomeOf winding0 0 0 = .admitted ∧ outcomeOf winding0 0 3 = .admitted) ∧ winding0.NoticesFit :=
  ⟨by decide +kernel, test_notices_winding0⟩

theorem test_witness_AnAdmittedDomainWakeQueuesTheDomain_notified :
    (Executes notified ∧ notified.PortsFollow ∧ notified.RecordingFits ∧ (notified.dom 0).state = .winding ∧
      outcomeOf notified 0 2 = .admitted) ∧ notified.NoticesFit :=
  ⟨by decide +kernel, test_notices_notified⟩

theorem test_witness_DomainSleepAndClearFaultActByTheState :
    Executes night ∧ (night.dom 0).state = .awake ∧ (night.dom 1).state = .asleep ∧
      (State.reset.dom 0).state = .queued ∧ Executes State.reset ∧ Executes powering2 ∧
      (powering2.dom 2).state = .powering ∧
      (let s := withDomain night 2 (fun r => { r with state := .fault })
       Executes s ∧ (s.dom 2).state = .fault ∧ s.AttachmentsFit ∧ s.PortsFollow) ∧ 12 ≤ (12 : Byte).toNat ∧
      night.PortsFollow ∧ State.reset.AttachmentsFit ∧ State.reset.PortsFollow ∧ powering2.AttachmentsFit ∧
      powering2.PortsFollow := by decide +kernel

theorem test_witness_DomainSleepAndClearFaultActByTheState_notices :
    night.NoticesFit ∧ State.reset.NoticesFit ∧ powering2.NoticesFit ∧
      (withDomain night 2 (fun r => { r with state := .fault })).NoticesFit :=
  ⟨test_notices_night, test_notices_reset, test_notices_powering2, by refine ⟨?_, ?_, ?_, ?_⟩ <;> decide +kernel⟩

theorem test_witness_SetSlotsWritesTheCountAlone : Executes waiting := by decide +kernel

theorem test_witness_SetBudgetWritesTheSettingsAndShedsInPark :
    Executes State.reset ∧ State.reset.mode = .run ∧ Executes night ∧ night.mode = .park ∧
      depth night.account.tier < depth (tierFor (3600000 * 0 - night.account.spent) (3600000 * 0) 40 15) ∧
      shedBy night .exhausted 0 = true ∧ (night.dom 0).state = .awake := by decide +kernel

theorem test_witness_ReadAccountReportsItsPart :
    Executes night ∧ (11 : Domain).val = (11 : Byte).toNat ∧ 12 ≤ (12 : Byte).toNat ∧ 4 < (5 : Byte).toNat ∧
      ((3 : Byte).toNat = 3 ∧ 1 < (2 : Byte).toNat) := by decide +kernel

theorem test_witness_TakeCausesSendsTheOldestRecords : Executes State.reset := by decide +kernel

theorem test_witness_CaptureBuffersAreSetReleasedAndFreed :
    Executes State.reset ∧ (∀ b ∈ State.reset.capture.buffers, b.state = .free) ∧ Executes night ∧
      (∃ b ∈ night.capture.buffers, b.state ≠ .free) ∧ 3 < (4 : Byte).toNat ∧ (3 : Fin 4).val = (3 : Byte).toNat ∧
      Executes closedNight ∧ (closedNight.buffer closedNight.capture.readPtr).state = .closed := by decide +kernel

theorem test_witness_CaptureReadsReportTheStore : Executes closedNight := by decide +kernel

theorem test_witness_LineRequestsWriteAndReportTheLines : Executes sampling := by decide +kernel

theorem test_witness_TimersAreSetStartedStoppedAndExpire :
    Executes expiring ∧ 8 ≤ (8 : Byte).toNat ∧ (7 : TimerIx).val = (7 : Byte).toNat ∧ timerDue expiring 0 := by
  decide +kernel

theorem test_witness_ReadPortStatusReportsAPage :
    Executes blockedB ∧ 7 ≤ (7 : Byte).toNat ∧ (6 : Port).val = (6 : Byte).toNat := by decide +kernel

theorem test_witness_FramesTakenAreCountedAndStored :
    (BusFrame.data 0x2C0 1 [7]).wellFormed = true ∧ (2 : Port) ≠ Port.B ∧
      (withPort night 0 (fun u => { u with active := false })).requestId = 0x700 ∧
      ((withPort night 0 (fun u => { u with active := false })).port Port.B).active = false ∧
      ∀ i code bytes, BusFrame.remote 0x2C0 ≠ .data i code bytes := by
  refine ⟨by decide, by decide, by decide +kernel, by decide +kernel, ?_⟩
  intro i code bytes h
  cases h

theorem test_witness_TheArbiterGrantsInCircularOrder :
    let s := { withPort night 2 (fun u => { u with rx := [frameRecord night 2 2 []] }) with pointer := 1 }
    s.engine.inFlight = none ∧ s.engine.commitPending = false ∧ s.inputQueue (s.pointer + 1) ≠ [] ∧
      (∀ j : Fin 10, j < 1 → s.inputQueue (s.pointer + j) = []) ∧ ∀ i : Fin 10, night.inputQueue i = [] := by
  decide +kernel

/-- The evaluation of frame b of section 12.3, which matches row 1 alone. -/
def frameB : State :=
  evaluating night (frameRecord night 0 0x1A4 []) 1
    { Row.atReset with
      valid := true, sources := 1, ident := 0x1A4, modes := .park, wake := 0x004, cls := 2, record := true }

theorem test_witness_CompletionCountsForwardsAndRecords :
    night.engine.inFlight = none ∧ frameB.engine.inFlight = some (frameRecord night 0 0x1A4 []) ∧
      (∀ d : Domain, ¬recognisedBy frameB (frameRecord night 0 0x1A4 []) d) ∧
      recordedBy frameB (frameRecord night 0 0x1A4 []) ∧ frameB.StoreFits ∧
      recordsInto (frameB.buffer frameB.capture.writePtr) ∧ frameB.RecordingFits ∧ frameB.PortsFollow ∧
      (frameB.buffer frameB.capture.writePtr).state = .opened := by decide +kernel

/-- Frame b of section 12.3 once more, while buffer 0 waits for one post frame. -/
def lastPost : State :=
  evaluating posting (frameRecord night 0 0x1A4 []) 1
    { Row.atReset with valid := true, sources := 1, ident := 0x1A4, modes := .park, record := true }

theorem test_witness_CompletionCountsForwardsAndRecords_post :
    lastPost.engine.inFlight = some (frameRecord night 0 0x1A4 []) ∧
      (∀ d : Domain, ¬recognisedBy lastPost (frameRecord night 0 0x1A4 []) d) ∧ lastPost.StoreFits ∧
      lastPost.RecordingFits ∧ lastPost.PortsFollow ∧ (lastPost.buffer lastPost.capture.writePtr).state = .post ∧
      postAfter lastPost (frameRecord night 0 0x1A4 []) = 0 := by decide +kernel

/-- R148: the last post frame is recorded and the buffer closes, and buffer 1 opens. -/
theorem test_evaluationCompletion_closes :
    does .evaluationCompletion lastPost
      (fun t => (t.buffer 0).state == .closed && (t.buffer 0).slots.length == 2 && t.capture.writePtr == 1 &&
        (t.buffer 1).state == .opened && (t.buffer 0).closeSecond == 200000) = true := by decide +kernel

theorem test_witness_CompletionMakesTheDirectWakes :
    (frameB.engine.inFlight = some (frameRecord night 0 0x1A4 []) ∧
      (∀ d : Domain, ¬recognisedBy frameB (frameRecord night 0 0x1A4 []) d) ∧
      rowMatches frameB (frameRecord night 0 0x1A4 []) 1 ∧
      (∀ i : RowIx, rowMatches frameB (frameRecord night 0 0x1A4 []) i → (activeRow frameB i).group = none) ∧
      wakingRows frameB (frameRecord night 0 0x1A4 []) 2 = [1]) ∧ frameB.mode = .park ∧ frameB.PortsFollow ∧
      frameB.StoreFits ∧ frameB.RecordingFits ∧ outcomeOf frameB 2 2 = .admitted :=
  ⟨by decide +kernel, by decide +kernel⟩

/-- The motion sensor's frame of section 12.4, which matches row 42 of group G2 alone. -/
def motion : State :=
  evaluating
    { night with
      contributions := night.contributions.set 2 [{ row := 40, taken := 200 }, { row := 41, taken := 900 }]
      engine := { night.engine with
        active := { night.engine.active with
          groups := night.engine.active.groups.set 2
            { enabled := true, threshold := 3, window := 2000, cls := 1, wake := 0x101 } } } }
    (frameRecord night 4 0x3B2 []) 42
    { Row.atReset with valid := true, sources := 0x10, ident := 0x3B2, group := some 2, record := true }

theorem test_witness_ContributionsFireTheirGroupAndExpire :
    motion.engine.inFlight = some (frameRecord night 4 0x3B2 []) ∧
      (∀ d : Domain, ¬recognisedBy motion (frameRecord night 4 0x3B2 []) d ∧
        wakingRows motion (frameRecord night 4 0x3B2 []) d = []) ∧
      rowMatches motion (frameRecord night 4 0x3B2 []) 42 ∧ (activeRow motion 42).group = some 2 ∧
      (∀ j : RowIx, rowMatches motion (frameRecord night 4 0x3B2 []) j → (activeRow motion j).group ≠ none → j = 42) ∧
      (motion.engine.active.groups.get 2).threshold ≤ (afterContribution motion 2 42).length ∧
      1800 + ((contributed 3800).engine.active.groups.get 2).window ≤ (contributed 3800).timeBase := by decide +kernel

/-- The frame 0x121 of section 12.2, which no row matches, with D0 WINDING. -/
def sleepReady : State := evaluating winding0 (frameRecord night 0 0x121 []) 1 Row.atReset

theorem test_witness_FramesOfADomainAreRecognised :
    sleepReady.engine.inFlight = some (frameRecord night 0 0x121 []) ∧
      (frameRecord night 0 0x121 []).source = .port 0 ∧
      (∀ i : RowIx, ¬rowMatches sleepReady (frameRecord night 0 0x121 []) i) ∧ sleepReady.portOf 0 = 0 ∧
      winds (sleepReady.dom 0) 0x121 ∧ (sleepReady.dom 0).params.faultId ≠ some 0x121 ∧
      readies (announcing2.dom 2) 0x10 ∧ sleepReady.portOf 2 ≠ 0 := by decide +kernel

theorem test_witness_SlotsAreGrantedAndHoldsExpire :
    waiting.PortsFollow ∧ waiting.WaitQueueFits ∧
      waiting.slots.queue = { domain := 2, cls := 2, join := 0 } :: [] ∧
      (List.finRange 12).countP (fun d => (waiting.slots.holders.get d).isSome) < waiting.slots.count ∧
      night.slots.queue = [] := by decide +kernel

theorem test_witness_ReadyAndWindTimersExpire :
    ((powering2.dom 2).state = .powering ∧ (powering2.dom 2).readyTimer.isSome = true ∧
      powering2.slots.holders.get 2 = some .powering ∧ powering2.AttachmentsFit ∧
      (announcing2.dom 2).wakeClass = some 2 ∧ announcing2.AttachmentsFit ∧ announcing2.PortsFollow ∧
      (winding0.dom 0).state = .winding ∧ (winding0.dom 0).windTimer.isSome = true ∧ winding0.AttachmentsFit ∧
      winding0.PortsFollow) ∧ announcing2.NoticesFit ∧ winding0.NoticesFit :=
  ⟨by decide +kernel, test_notices_announcing2, test_notices_winding0⟩

theorem test_witness_IdleDomainsWindInPark :
    ((idling.dom 0).state = .awake ∧ (idling.dom 0).idleTimer = .running 0 ∧ idling.mode = .park ∧
      (idling.dom 0).minAwakeTimer = none ∧ idling.PortsFollow ∧ (elapsing.dom 0).minAwakeTimer = some 0 ∧
      (elapsing.dom 0).idleTimer = .expired ∧ elapsing.PortsFollow ∧ (cancelling.dom 0).idleTimer = .running 0 ∧
      cancelling.PortsFollow) ∧ idling.NoticesFit ∧ elapsing.NoticesFit ∧ cancelling.NoticesFit :=
  ⟨by decide +kernel, test_notices_idling, test_notices_elapsing, test_notices_cancelling⟩

theorem test_witness_AttemptsReplaysAndRecoveryStart :
    replayable replaying 2 0 ∧ (∀ k < 32 / 2 ^ night.capture.mode.val, ¬replayable night 2 k) ∧
      (winding0.port 0).active = true ∧ (winding0.port 0).attempt = none := by decide +kernel

theorem test_witness_QueueAttemptsEnd :
    (night.port 0).attempt = none ∧ (failing.port 0).attempt = some (attemptOf .queueHead) ∧
      (attemptOf .queueHead).sending = .queueHead ∧ (failing.port 0).fwd = .notice 0 0x120 (.sleep .idle) :: [] := by
  decide +kernel

theorem test_witness_QueueAttemptsEnd_removal :
    ((removing.port 0).attempt = some { sending := .queueHead, detached := false, removal := true } ∧
      (removing.port 0).fwd = .notice 0 0x120 (.sleep .idle) :: []) ∧ removing.NoticesFit :=
  ⟨by decide +kernel, test_notices_removing⟩

/-- The response of an accepted Reset in transmission on B. -/
def resetting : State :=
  withPort { night with management := { night.management with resetPending := true, resetDeadline := some 250 } } 0
    (fun u => { u with fwd := [.frame 0x701 [0x3F, 7, 0] true], attempt := some (attemptOf .queueHead) })

theorem test_witness_QueueAttemptsEnd_reset :
    (resetting.port 0).attempt = some (attemptOf .queueHead) ∧
      (resetting.port 0).fwd = .frame 0x701 [0x3F, 7, 0] true :: [] ∧ resetting.management.resetPending = true := by
  decide +kernel

theorem test_witness_ReplayAttemptsEnd :
    (lastReplay.port 2).attempt = some (attemptOf (.replay 0 1)) ∧
      (attemptOf (.replay 0 1)).sending = .replay 0 1 ∧ (lastReplay.port 2).replay = some 0 := by decide +kernel

theorem test_witness_SamplesDebounceTheLines : ignites sampling 0x000C ∧ ¬ignites sampling 0 := by decide +kernel

end Sys2Proof.Tests
end

section
/-!
What a step can do, said once. Every command is a run of *moves*: an inductive list of the ways in which the ports and the
domains change, with the guard under which the model makes each of them. An invariant of the ports and domains is then kept by
every step as soon as it is kept by every move.
-/

namespace Sys2Proof.Machine

/-! ### The invariants of O5 and O6, unit by unit -/

/-- The part of `State.BlockingFits` that speaks of one port (R8, R13, R15, R16). -/
structure PortUnit.BlockFits (u : PortUnit) : Prop where
  blocked  : u.blocked = true → u.active = true
  recovery : u.recovery.isSome = u.blocked
  attempt  : ∀ a ∈ u.attempt, a.detached = false → u.active = true

/-- The part of `State.QueuesFit` and `State.CountersFit` that speaks of one port (R9, R10, R14, R17). -/
structure PortUnit.Bounded (u : PortUnit) : Prop where
  rx              : u.rx.length ≤ Config.receiveFifo
  frames          : u.frameEntries ≤ Config.forwardQueue
  failures        : u.failures ≤ Config.failureLimit
  received        : u.received ≤ Config.counterMax
  unmatched       : u.unmatched ≤ Config.counterMax
  unsupported     : u.unsupported ≤ Config.counterMax
  overrun         : u.overrun ≤ Config.counterMax
  forwardDrop     : u.forwardDrop ≤ Config.counterMax
  forwardSkipped  : u.forwardSkipped ≤ Config.counterMax
  transmitFailure : u.transmitFailure ≤ Config.counterMax

/-- The part of `State.CountersFit` that speaks of one domain (R75). -/
structure DomainRec.Bounded (r : DomainRec) : Prop where
  forcedSleep : r.forcedSleep ≤ Config.counterMax
  faults      : r.faults ≤ Config.counterMax
  ignored     : r.ignored ≤ Config.counterMax

/-- The part of `State.CountersFit` that speaks of the Capture Store (R142, R143). -/
structure CaptureStore.Bounded (c : CaptureStore) : Prop where
  loss    : c.loss ≤ Config.counterMax
  skipped : ∀ b ∈ c.buffers, b.skipped ≤ Config.counterMax

/-- The part of `State.QueuesFit` and `State.CountersFit` that speaks of neither ports nor domains (R35, R60, R71, R124, R139,
R142, R143, R170). -/
structure State.BlocksBounded (s : State) : Prop where
  line      : s.lineUnit.queue.length ≤ Config.lineQueue
  timer     : s.timerUnit.queue.length ≤ Config.timerQueue
  injection : s.management.injection.length ≤ Config.injectionQueue
  causes    : s.causes.records.length ≤ Config.causeQueue
  hits      : ∀ i : RowIx, s.engine.hits.get i ≤ Config.counterMax
  lost      : ∀ t : TimerIx, (s.timerUnit.timers.get t).lost ≤ Config.byteMax
  spent     : s.account.spent ≤ Config.chargeMax
  overflow  : s.causes.overflow ≤ Config.byteMax
  capture   : s.capture.Bounded

theorem State.blockingFits_iff (s : State) : s.BlockingFits ↔ ∀ p : Port, (s.port p).BlockFits :=
  ⟨fun h p => ⟨(h p).1, (h p).2.1, (h p).2.2⟩, fun h p => ⟨(h p).blocked, (h p).recovery, (h p).attempt⟩⟩

theorem State.bounded_iff (s : State) :
    (s.QueuesFit ∧ s.CountersFit) ↔
      (∀ p : Port, (s.port p).Bounded) ∧ (∀ d : Domain, (s.dom d).Bounded) ∧ s.BlocksBounded := by
  constructor
  · rintro ⟨⟨hq, hline, htimer, hinj, hcauses⟩, hp, hhits, hlost, hd, hspent, hover, hloss, hskip⟩
    refine ⟨fun p => ?_, fun d => ⟨(hd d).1, (hd d).2.1, (hd d).2.2⟩,
      ⟨hline, htimer, hinj, hcauses, hhits, hlost, hspent, hover, hloss, hskip⟩⟩
    obtain ⟨hrx, hfwd⟩ := hq p
    obtain ⟨h1, h2, h3, h4, h5, h6, h7, h8⟩ := hp p
    exact ⟨hrx, hfwd, h1, h2, h3, h4, h5, h6, h7, h8⟩
  · rintro ⟨hp, hd, hb⟩
    exact ⟨⟨fun p => ⟨(hp p).rx, (hp p).frames⟩, hb.line, hb.timer, hb.injection, hb.causes⟩,
      fun p => ⟨(hp p).failures, (hp p).received, (hp p).unmatched, (hp p).unsupported, (hp p).overrun, (hp p).forwardDrop,
        (hp p).forwardSkipped, (hp p).transmitFailure⟩,
      hb.hits, hb.lost, fun d => ⟨(hd d).forcedSleep, (hd d).faults, (hd d).ignored⟩, hb.spent, hb.overflow, hb.capture.loss,
      hb.capture.skipped⟩

/-! ### Counters -/

theorem satInc_le {limit c : Nat} (h : c ≤ limit) : satInc limit c ≤ limit := by
  unfold satInc; split <;> omega

/-! ### Quiet changes -/

/-- A change of a port that keeps its state and its notices: it appends frame entries alone, and its attempt stays or begins.
The invariants of one port hold afterwards where they held before. -/
structure PortUnit.Quiet (u u' : PortUnit) : Prop where
  active  : u'.active = u.active
  blocks  : u.BlockFits → u'.BlockFits
  bounded : u.Bounded → u'.Bounded
  fwd     : ∃ l : List FwdEntry, u'.fwd = u.fwd ++ l ∧ ∀ e ∈ l, e.isFrame = true
  attempt : u'.attempt = u.attempt ∨
    u.attempt = none ∧ ∃ x : Sending, u'.attempt = some { sending := x, detached := false, removal := false }

/-- A change of a domain that keeps its state, its enable line, its parameters and its notice field. -/
structure DomainRec.Quiet (r r' : DomainRec) : Prop where
  state   : r'.state = r.state
  enable  : r'.enable = r.enable
  params  : r'.params = r.params
  notice  : r'.notice = r.notice
  bounded : r.Bounded → r'.Bounded

theorem PortUnit.Quiet.refl (u : PortUnit) : u.Quiet u :=
  ⟨rfl, id, id, ⟨[], by simp⟩, .inl rfl⟩

theorem DomainRec.Quiet.refl (r : DomainRec) : r.Quiet r := ⟨rfl, rfl, rfl, rfl, id⟩

theorem DomainRec.Quiet.trans {q r u : DomainRec} (h : q.Quiet r) (k : r.Quiet u) : q.Quiet u where
  state := k.state.trans h.state
  enable := k.enable.trans h.enable
  params := k.params.trans h.params
  notice := k.notice.trans h.notice
  bounded := k.bounded ∘ h.bounded

theorem PortUnit.Quiet.trans {u v w : PortUnit} (h : u.Quiet v) (k : v.Quiet w) : u.Quiet w where
  active := k.active.trans h.active
  blocks := k.blocks ∘ h.blocks
  bounded := k.bounded ∘ h.bounded
  fwd := by
    obtain ⟨l, hl, hlf⟩ := h.fwd
    obtain ⟨m, hm, hmf⟩ := k.fwd
    exact ⟨l ++ m, by rw [hm, hl, List.append_assoc], fun e he => (List.mem_append.mp he).elim (hlf e) (hmf e)⟩
  attempt := by
    rcases k.attempt with hk | ⟨hv, hk⟩
    · rw [hk]; exact h.attempt
    · rcases h.attempt with hu | ⟨-, x, hx⟩
      · exact .inr ⟨hu ▸ hv, hk⟩
      · simp [hv] at hx

/-- A quiet change that touches neither the forward queue nor the attempt. -/
theorem PortUnit.Quiet.of_same {u u' : PortUnit} (active : u'.active = u.active) (fwd : u'.fwd = u.fwd)
    (attempt : u'.attempt = u.attempt) (blocks : u.BlockFits → u'.BlockFits) (bounded : u.Bounded → u'.Bounded) :
    u.Quiet u' :=
  ⟨active, blocks, bounded, ⟨[], by simp [fwd]⟩, .inl attempt⟩

theorem PortUnit.quiet_countReceived (u : PortUnit) : u.Quiet u.countReceived :=
  .of_same rfl rfl rfl (fun h => ⟨h.1, h.2, h.3⟩) (fun h => { h with received := satInc_le h.received })

theorem PortUnit.quiet_countUnmatched (u : PortUnit) : u.Quiet u.countUnmatched :=
  .of_same rfl rfl rfl (fun h => ⟨h.1, h.2, h.3⟩) (fun h => { h with unmatched := satInc_le h.unmatched })

theorem PortUnit.quiet_countUnsupported (u : PortUnit) : u.Quiet u.countUnsupported :=
  .of_same rfl rfl rfl (fun h => ⟨h.1, h.2, h.3⟩) (fun h => { h with unsupported := satInc_le h.unsupported })

theorem PortUnit.quiet_countDrop (u : PortUnit) : u.Quiet u.countDrop :=
  .of_same rfl rfl rfl (fun h => ⟨h.1, h.2, h.3⟩) (fun h => { h with forwardDrop := satInc_le h.forwardDrop })

theorem PortUnit.quiet_countSkipped (u : PortUnit) : u.Quiet u.countSkipped :=
  .of_same rfl rfl rfl (fun h => ⟨h.1, h.2, h.3⟩) (fun h => { h with forwardSkipped := satInc_le h.forwardSkipped })

theorem PortUnit.quiet_clearFlags (u : PortUnit) : u.Quiet u.clearFlags :=
  .of_same rfl rfl rfl (fun h => ⟨h.1, h.2, h.3⟩) (fun h => { h with })

theorem PortUnit.quiet_leaveBlocked (u : PortUnit) : u.Quiet u.leaveBlocked := by
  unfold PortUnit.leaveBlocked
  split
  · exact .of_same rfl rfl rfl (fun h => ⟨by simp, rfl, h.3⟩) (fun h => { h with failures := by simp })
  · exact .refl u

@[simp] theorem length_markNewest (l : List FrameRecord) : (markNewest l).length = l.length := by
  induction l with
  | nil => rfl
  | cons r rest ih => cases rest <;> simp_all [markNewest]

theorem PortUnit.quiet_store (u : PortUnit) (r : FrameRecord) : u.Quiet (u.store r) := by
  unfold PortUnit.store
  split
  · next hroom =>
    exact .of_same rfl rfl rfl (fun h => ⟨h.1, h.2, h.3⟩) (fun h => { h with rx := by simpa using hroom })
  · exact .of_same rfl rfl rfl (fun h => ⟨h.1, h.2, h.3⟩)
      (fun h => { h with rx := by simpa using h.rx, overrun := satInc_le h.overrun })

/-- A frame entry appended while a place is free. -/
theorem PortUnit.quiet_append {u : PortUnit} {e : FwdEntry} (he : e.isFrame = true)
    (hroom : u.frameEntries < Config.forwardQueue) : u.Quiet { u with fwd := u.fwd ++ [e] } :=
  ⟨rfl, fun h => ⟨h.1, h.2, h.3⟩,
    fun h => { h with frames := by
                        have : (u.fwd ++ [e]).countP FwdEntry.isFrame = u.frameEntries + 1 := by
                          simp [PortUnit.frameEntries, he]
                        exact this.trans_le hroom },
    ⟨[e], rfl, by simpa using he⟩, .inl rfl⟩

theorem PortUnit.quiet_offerForward (u : PortUnit) {e : FwdEntry} (he : e.isFrame = true) : u.Quiet (u.offerForward e) := by
  unfold PortUnit.offerForward
  split
  · split
    · next h => exact quiet_append he h
    · exact u.quiet_countDrop
  · exact u.quiet_countSkipped

theorem PortUnit.quiet_offerManagement (u : PortUnit) {e : FwdEntry} (he : e.isFrame = true) :
    u.Quiet (u.offerManagement e) := by
  unfold PortUnit.offerManagement
  split
  · next h => exact quiet_append he h
  · exact u.quiet_countDrop

theorem PortUnit.quiet_dropRx (u : PortUnit) : u.Quiet { u with rx := u.rx.drop 1 } :=
  .of_same rfl rfl rfl (fun h => ⟨h.1, h.2, h.3⟩) (fun h => { h with rx := by have := h.rx; simp; omega })

theorem PortUnit.quiet_replay (u : PortUnit) (j : Option Nat) (b : Bool) : u.Quiet { u with replay := j, abortDue := b } :=
  .of_same rfl rfl rfl (fun h => ⟨h.1, h.2, h.3⟩) (fun h => { h with })

theorem PortUnit.quiet_ms (u : PortUnit) : u.Quiet u.ms :=
  .of_same rfl rfl rfl (fun h => ⟨h.1, by simpa [PortUnit.ms] using h.2, h.3⟩) (fun h => { h with })

theorem PortUnit.quiet_start {u : PortUnit} (h : u.mayStart = true) (x : Sending) : u.Quiet (u.start x) := by
  simp only [PortUnit.mayStart, Bool.and_eq_true, Bool.not_eq_true', Option.isNone_iff_eq_none] at h
  obtain ⟨⟨hactive, -⟩, hnone⟩ := h
  exact ⟨rfl, fun b => ⟨b.1, b.2, fun _ _ _ => hactive⟩, fun b => { b with }, ⟨[], by simp [PortUnit.start]⟩,
    .inr ⟨hnone, x, rfl⟩⟩

theorem DomainRec.quiet_startWind (r : DomainRec) : r.Quiet r.startWind := by
  unfold DomainRec.startWind
  split
  · exact ⟨rfl, rfl, rfl, rfl, fun h => ⟨h.1, h.2, h.3⟩⟩
  · exact .refl r

theorem DomainRec.quiet_ms (r : DomainRec) : r.Quiet r.ms := ⟨rfl, rfl, rfl, rfl, fun h => ⟨h.1, h.2, h.3⟩⟩

theorem DomainRec.quiet_second (r : DomainRec) : r.Quiet r.second := by
  unfold DomainRec.second
  split
  · exact ⟨rfl, rfl, rfl, rfl, fun h => ⟨h.1, h.2, h.3⟩⟩
  · exact .refl r

/-! ### The moves -/

/-- What a move under the guards of R12 and R102 may assume of the state in which a command begins: the notices fit, and a
domain that waits for a slot is QUEUED. -/
structure State.Tidy (s : State) : Prop where
  notices : s.NoticesFit
  queued  : ∀ e ∈ s.slots.queue, (s.dom e.domain).state = .queued

/-- The state after the attempt `a` on port `p` is over and accounted for (R8, R14, R15). -/
def State.attemptOver (s : State) (p : Port) (a : Attempt) (o : TxOutcome) : State :=
  (s.updPort p (fun u => { u with attempt := none })).accountEnd p a.detached o

/-- The moves. A guard that stands behind `g` is needed by the invariant of the notices alone: it follows from `State.Tidy`,
which the other invariants do not have. -/
inductive Move (g : Prop) : State → State → Prop where
  /-- The ports and domains change quietly, and the other blocks within their bounds. -/
  | quiet {s t : State} (mode : t.mode = s.mode) (port : ∀ p, (s.port p).Quiet (t.port p))
      (dom : ∀ d, (s.dom d).Quiet (t.dom d)) (blocks : s.BlocksBounded → t.BlocksBounded)
      (lists : s.ContributionsFit → t.ContributionsFit) : Move g s t
  /-- A domain that is not AWAKE or WINDING takes a state. -/
  | enter (s : State) (d : Domain) (st : DomainState) (h : g → (s.dom d).state.activates = false) :
      Move g s (s.enterState d st)
  /-- A domain leaves for ASLEEP or FAULT. -/
  | off (s : State) (d : Domain) (st : DomainState) (f : DomainRec → DomainRec) (hst : st.activates = false)
      (hf : (s.dom d).Quiet (f (s.dom d))) : Move g s (s.switchOff d st f)
  /-- An AWAKE domain goes to WINDING. -/
  | wind (s : State) (d : Domain) (r : SleepReason) (h : (s.dom d).state = .awake) : Move g s (s.enterWinding d r)
  /-- A WINDING domain returns to AWAKE. -/
  | back (s : State) (d : Domain) (c : WakeClass) (h : (s.dom d).state = .winding) : Move g s (s.returnAwake d c)
  /-- The part mode changes, and every port derives its state anew. -/
  | mode (s : State) (m : Mode) :
      Move g s ({ s with management := { s.management with mode := m } } : State).rederiveAll
  /-- The parameters of a domain are written; the port only of an ASLEEP domain, and D0 alone to B. -/
  | params (s : State) (d : Domain) (q : DomainParams)
      (h : q.port = (s.dom d).params.port ∨ (s.dom d).state = .asleep ∧ (d = Domain.D0 ↔ q.port = Port.B)) :
      Move g s (s.updDom d (fun r => { r with params := q }))
  /-- An attempt ends that was not asked to remove a notice. -/
  | ended (s : State) (p : Port) (a : Attempt) (o : TxOutcome) (h : (s.port p).attempt = some a)
      (hr : g → a.removal = false) : Move g s (s.attemptOver p a o)
  /-- An attempt ends that was asked to remove the notice that it sent. -/
  | removed (s : State) (p : Port) (a : Attempt) (o : TxOutcome) (d : Domain) (i : Ident) (k : NoticeKind)
      (rest : List FwdEntry) (sent : Bool) (h : (s.port p).attempt = some a) (hr : a.removal = true)
      (hfwd : (s.port p).fwd = .notice d i k :: rest) : Move g s (((s.attemptOver p a o).dropHead p).settleNotice d k sent)
  /-- A frame entry that was sent leaves the queue. -/
  | sentFrame (s : State) (p : Port) (i : Ident) (data : List Byte) (b : Bool) (rest : List FwdEntry)
      (hn : (s.port p).attempt = none) (hfwd : (s.port p).fwd = .frame i data b :: rest) : Move g s (s.dropHead p)
  /-- A notice entry that was sent leaves the queue, and its domain is told. -/
  | sentNotice (s : State) (p : Port) (d : Domain) (i : Ident) (k : NoticeKind) (rest : List FwdEntry)
      (hn : (s.port p).attempt = none) (hfwd : (s.port p).fwd = .notice d i k :: rest) :
      Move g s ((s.dropHead p).noticeSent d k)
  /-- A reset sets every block. -/
  | reset (s : State) (m : Management) (n : Nat) (cs : List Instr) (hm : m.mode = .run) (hi : m.injection = []) :
      Move g s (State.blocksAtReset m n cs)

/-- A run of moves. -/
def Moves (g : Prop) : State → State → Prop := Relation.ReflTransGen (Move g)

section
variable {g : Prop} {s t : State}

theorem Moves.refl : Moves g s s := Relation.ReflTransGen.refl

theorem Moves.trans {u : State} (h : Moves g s t) (k : Moves g t u) : Moves g s u := Relation.ReflTransGen.trans h k

theorem Moves.move {u : State} (h : Moves g s t) (k : Move g t u) : Moves g s u := Relation.ReflTransGen.tail h k

/-- What every move keeps, a run of moves keeps. -/
theorem Moves.keeps {P : State → Prop} (hP : ∀ s t, Move g s t → P s → P t) (h : Moves g s t) (hs : P s) : P t := by
  induction h with
  | refl => exact hs
  | tail _ hm ih => exact hP _ _ hm ih

/-! ### Runs of moves, extended by one operation -/

theorem Moves.foldl {α : Type} {f : State → α → State} (hf : ∀ s a, Moves g s (f s a)) (l : List α) (h : Moves g s t) :
    Moves g s (l.foldl f t) := by
  induction l generalizing t with
  | nil => exact h
  | cons a l ih => exact ih (h.trans (hf t a))

theorem Moves.eachDomain {f : State → Domain → State} (h : Moves g s t) (hf : ∀ s d, Moves g s (f s d)) :
    Moves g s (t.eachDomain f) := h.foldl hf _

theorem Moves.ite {c : Prop} [Decidable c] {u : State} (ht : c → Moves g s t) (hu : ¬c → Moves g s u) :
    Moves g s (if c then t else u) := by
  split
  · next h => exact ht h
  · next h => exact hu h

/-- A change of the blocks beside the ports and domains. Where the contribution lists, the group definitions and the time base
stay, the last condition is met by itself. -/
theorem Moves.aside {u : State} (h : Moves g s t) (ports : u.ports = t.ports) (domains : u.domains = t.domains)
    (mode : u.mode = t.mode) (blocks : t.BlocksBounded → u.BlocksBounded)
    (lists : t.ContributionsFit → u.ContributionsFit := by exact id) : Moves g s u :=
  h.move (.quiet mode (fun p => by rw [State.port, State.port, ports]; exact .refl _)
    (fun d => by rw [State.dom_of_domains domains]; exact .refl _) blocks lists)

/-- A quiet change of one port. -/
theorem Moves.port (h : Moves g s t) {p : Port} {f : PortUnit → PortUnit} (hf : (t.port p).Quiet (f (t.port p))) :
    Moves g s (t.updPort p f) :=
  h.move (.quiet rfl
    (fun q => by
      rw [State.port_updPort]
      split
      · next hq => exact hq ▸ hf
      · exact .refl _)
    (fun _ => .refl _) (fun b => { b with }) id)

/-- A quiet change of one domain. -/
theorem Moves.dom (h : Moves g s t) {d : Domain} {f : DomainRec → DomainRec} (hf : (t.dom d).Quiet (f (t.dom d))) :
    Moves g s (t.updDom d f) :=
  h.move (.quiet rfl (fun _ => .refl _)
    (fun e => by
      rw [State.dom_updDom]
      split
      · next he => exact he ▸ hf
      · exact .refl _)
    (fun b => { b with }) id)

theorem Moves.slots (h : Moves g s t) (f : SlotArbiter → SlotArbiter) : Moves g s (t.updSlots f) :=
  h.aside rfl rfl rfl (fun b => { b with })

end

end Sys2Proof.Machine
end

section
/-! The runs of moves of the operations that the commands share: captures, causes, admission, shedding, grants, park
transitions and resets. -/

namespace Sys2Proof.Machine

variable {g : Prop} {s t : State}

/-! ### The Capture Store within its bounds (R142, R143) -/

theorem forall_mem_modify {α : Type} {P : α → Prop} {f : α → α} (hf : ∀ a, P a → P (f a)) (l : List α) (j : Nat)
    (h : ∀ a ∈ l, P a) : ∀ a ∈ l.modify j f, P a := by
  induction l generalizing j with
  | nil => simp
  | cons a l ih =>
    obtain ⟨ha, hl⟩ := List.forall_mem_cons.mp h
    cases j with
    | zero => simpa using ⟨hf a ha, hl⟩
    | succ j => simpa using ⟨ha, ih j hl⟩

theorem forall_mem_mapIdx {α : Type} {P : α → Prop} {f : Nat → α → α} (hf : ∀ j a, P a → P (f j a)) (l : List α)
    (h : ∀ a ∈ l, P a) : ∀ a ∈ l.mapIdx f, P a := by
  intro a ha
  obtain ⟨j, hj, rfl⟩ := List.mem_mapIdx.mp ha
  exact hf j _ (h _ (List.getElem_mem hj))

theorem satAdd_le (limit c n : Nat) : satAdd limit c n ≤ limit := Nat.min_le_left _ _

@[simp] theorem Buffer.settle_skipped (b : Buffer) : b.settle.skipped = b.skipped := by
  unfold Buffer.settle; split <;> rfl

@[simp] theorem Buffer.close_skipped (b : Buffer) (n : BitVec 32) : (b.close n).skipped = b.skipped := by
  simp [Buffer.close]

@[simp] theorem Buffer.served_skipped (b : Buffer) (p : Port) : (b.served p).skipped = b.skipped := by
  simp [Buffer.served]

@[simp] theorem Buffer.take_skipped (b : Buffer) (n : Nat) (d : Domain) (p : Port) (c : Cause) :
    (b.take n d p c).skipped = b.skipped := by
  unfold Buffer.take; split <;> rfl

@[simp] theorem Buffer.write_skipped (b : Buffer) (n : Nat) (f : StoredFrame) : (b.write n f).skipped = b.skipped := by
  unfold Buffer.write; dsimp only; (repeat' split) <;> rfl

theorem Buffer.giveUp_skipped_le (b : Buffer) (p : Port) : (b.giveUp p).skipped ≤ Config.counterMax := by
  simpa [Buffer.giveUp] using satAdd_le _ _ _

theorem CaptureStore.Bounded.modify {c : CaptureStore} (h : c.Bounded) (j : Nat) {f : Buffer → Buffer}
    (hf : ∀ b, b.skipped ≤ Config.counterMax → (f b).skipped ≤ Config.counterMax) :
    ({ c with buffers := c.buffers.modify j f } : CaptureStore).Bounded :=
  ⟨h.loss, forall_mem_modify hf _ j h.skipped⟩

theorem State.abortReplay_bounded (h : s.capture.Bounded) (p : Port) : (s.abortReplay p).capture.Bounded := by
  unfold State.abortReplay
  split
  · exact h.modify _ (fun b _ => b.giveUp_skipped_le p)
  · exact h

theorem State.portListen_bounded (h : s.capture.Bounded) (p : Port) : (s.portListen p).capture.Bounded := by
  unfold State.portListen
  dsimp only
  split
  · exact h
  · split
    · exact h
    · exact State.abortReplay_bounded (s := s.updPort p PortUnit.toListen) h p

theorem State.rederive_bounded (h : s.capture.Bounded) (p : Port) : (s.rederive p).capture.Bounded := by
  unfold State.rederive
  split
  · exact h
  · split
    · exact h
    · exact s.portListen_bounded h p

theorem State.openBuffer_bounded (h : s.capture.Bounded) : s.openBuffer.capture.Bounded := by
  unfold State.openBuffer
  split
  · exact h.modify _ (fun b hb => hb)
  · exact h

theorem State.closeBuffer_bounded (h : s.capture.Bounded) : s.closeBuffer.capture.Bounded :=
  State.openBuffer_bounded ⟨h.loss, (h.modify _ (fun b hb => by simpa using hb)).skipped⟩

theorem State.closeIfComplete_bounded (h : s.capture.Bounded) : s.closeIfComplete.capture.Bounded := by
  unfold State.closeIfComplete
  dsimp only
  split
  · exact State.closeBuffer_bounded h
  · exact h

theorem State.captureParkExit_bounded (h : s.capture.Bounded) : s.captureParkExit.capture.Bounded := by
  unfold State.captureParkExit
  split
  · exact h.modify _ (fun _ _ => Nat.zero_le _)
  · exact State.closeBuffer_bounded h
  · exact h

theorem State.trigger_bounded (h : s.capture.Bounded) (d : Domain) (c : Cause) : (s.trigger d c).capture.Bounded := by
  unfold State.trigger
  split
  · exact h.modify _ (fun b hb => by simpa using hb)
  · exact h

theorem State.domainDown_bounded (h : s.capture.Bounded) (d : Domain) : (s.domainDown d).capture.Bounded :=
  ⟨h.loss, forall_mem_mapIdx (P := fun b : Buffer => b.skipped ≤ Config.counterMax)
    (fun j b hb => by
      split
      · exact b.giveUp_skipped_le _
      · exact hb) _ h.skipped⟩

theorem State.recordFrame_bounded (h : s.capture.Bounded) (f : StoredFrame) : (s.recordFrame f).capture.Bounded := by
  unfold State.recordFrame
  split
  · exact h.modify _ (fun b hb => by simpa using hb)
  · exact ⟨satInc_le h.loss, h.skipped⟩

theorem State.freeBuffer_bounded (h : s.capture.Bounded) : s.freeBuffer.capture.Bounded :=
  State.openBuffer_bounded ⟨h.loss, (h.modify _ (fun _ _ => Nat.zero_le _)).skipped⟩

/-! ### The other blocks within their bounds -/

/-- The bounds of the blocks where no fixed block changes. -/
theorem State.BlocksBounded.of_fixed (fixed : t.fixed = s.fixed) (spent : t.account.spent = s.account.spent)
    (causes : t.causes = s.causes) (capture : s.capture.Bounded → t.capture.Bounded) (b : s.BlocksBounded) :
    t.BlocksBounded where
  line := by rw [State.lineUnit_of_fixed fixed]; exact b.line
  timer := by rw [State.timerUnit_of_fixed fixed]; exact b.timer
  injection := by rw [State.management_of_fixed fixed]; exact b.injection
  causes := by rw [causes]; exact b.causes
  hits := by rw [State.engine_of_fixed fixed]; exact b.hits
  lost := by rw [State.timerUnit_of_fixed fixed]; exact b.lost
  spent := by rw [spent]; exact b.spent
  overflow := by rw [causes]; exact b.overflow
  capture := capture b.capture

theorem State.ContributionsFit.of_fixed (fixed : t.fixed = s.fixed) (h : s.ContributionsFit) : t.ContributionsFit := by
  unfold State.ContributionsFit
  rw [State.engine_of_fixed fixed, State.contributions_of_fixed fixed, State.timeBase_of_fixed fixed]
  exact h

/-- A change of the Capture Store alone. -/
theorem Moves.capture {u : State} (h : Moves g s t) (ports : u.ports = t.ports) (domains : u.domains = t.domains)
    (fixed : u.fixed = t.fixed) (account : u.account = t.account) (causes : u.causes = t.causes)
    (capture : t.capture.Bounded → u.capture.Bounded) : Moves g s u :=
  h.aside ports domains (State.mode_of_fixed fixed) (fun b => b.of_fixed fixed (by rw [account]) causes capture)
    (fun c => c.of_fixed fixed)

/-- A change of the Charge Account that keeps the charge within its range. -/
theorem Moves.account (h : Moves g s t) {f : Account → Account}
    (hf : t.account.spent ≤ Config.chargeMax → (f t.account).spent ≤ Config.chargeMax) : Moves g s (t.updAccount f) :=
  h.aside rfl rfl rfl (fun b => { b with spent := hf b.spent })

theorem Moves.tokens (h : Moves g s t) (d : Domain) (f : TokenRec → TokenRec) : Moves g s (t.updTokens d f) := h.account id

theorem CauseQueue.write_bounded {q : CauseQueue} (r : CauseRecord) (h : q.records.length ≤ Config.causeQueue)
    (ho : q.overflow ≤ Config.byteMax) :
    (q.write r).records.length ≤ Config.causeQueue ∧ (q.write r).overflow ≤ Config.byteMax := by
  rcases q.write_cases r with ⟨hroom, hw⟩ | ⟨-, hw⟩ <;> rw [hw]
  · exact ⟨by simpa using hroom, ho⟩
  · exact ⟨h, satInc_le ho⟩

theorem Moves.writeCause (h : Moves g s t) (d : Domain) (c : Cause) (k : WakeClass) (o : WakeOutcome) (j : Option Nat) :
    Moves g s (t.writeCause d c k o j) :=
  h.aside rfl rfl rfl (fun b =>
    { b with
      causes := (CauseQueue.write_bounded _ b.causes b.overflow).1
      overflow := (CauseQueue.write_bounded _ b.causes b.overflow).2 })

theorem Moves.openBuffer (h : Moves g s t) : Moves g s t.openBuffer :=
  h.capture (by simp) (by simp) (by simp) (by simp) (by simp) State.openBuffer_bounded

theorem Moves.closeIfComplete (h : Moves g s t) : Moves g s t.closeIfComplete :=
  h.capture (by simp) (by simp) (by simp) (by simp) (by simp) State.closeIfComplete_bounded

theorem Moves.captureParkExit (h : Moves g s t) : Moves g s t.captureParkExit :=
  h.capture (by simp) (by simp) (by simp) (by simp) (by simp) State.captureParkExit_bounded

theorem Moves.freeBuffer (h : Moves g s t) : Moves g s t.freeBuffer :=
  h.capture (by simp) (by simp) (by simp) (by simp) (by simp) State.freeBuffer_bounded

theorem Moves.recordFrame (h : Moves g s t) (f : StoredFrame) : Moves g s (t.recordFrame f) :=
  h.capture (by simp) (by simp) (by simp) (by simp) (by simp) (fun b => State.recordFrame_bounded b f)

theorem Moves.trigger (h : Moves g s t) (d : Domain) (c : Cause) : Moves g s (t.trigger d c) :=
  h.capture (by simp) (by simp) (by simp) (by simp) (by simp) (fun b => State.trigger_bounded b d c)

/-! ### Admission (R78, R86, R93, R104, R131, R132) -/

/-- A domain that is judged ADMITTED is neither AWAKE, QUEUED, POWERING nor in FAULT (R131). -/
theorem State.judge_admitted {d : Domain} {c : WakeClass} (h : s.judge d c = .admitted) :
    (s.dom d).state = .asleep ∨ (s.dom d).state = .winding := by
  cases hst : (s.dom d).state <;> simp [State.judge, DomainState.sheddable, hst] at h ⊢ <;> split at h <;> cases h

theorem DomainRec.quiet_wakeClass (r : DomainRec) (c : Option WakeClass) : r.Quiet { r with wakeClass := c } :=
  ⟨rfl, rfl, rfl, rfl, fun h => ⟨h.1, h.2, h.3⟩⟩

theorem DomainRec.quiet_idleTimer (r : DomainRec) (i : IdleTimer) : r.Quiet { r with idleTimer := i } :=
  ⟨rfl, rfl, rfl, rfl, fun h => ⟨h.1, h.2, h.3⟩⟩

theorem Moves.admitted (h : Moves g s t) (d : Domain) (c : WakeClass)
    (hst : (t.dom d).state = .asleep ∨ (t.dom d).state = .winding) : Moves g s (t.admitted d c) := by
  unfold State.admitted
  split
  · next hw => exact h.move (.back t d c hw)
  · next hw =>
    have hrest : (t.dom d).state = .asleep := hst.resolve_right hw
    exact ((h.dom ⟨rfl, rfl, rfl, rfl, fun b => ⟨b.1, b.2, b.3⟩⟩).move
      (.enter _ d .queued (fun _ => by simp [hrest, DomainState.activates]))).slots _

theorem Moves.merged (h : Moves g s t) (d : Domain) (c : WakeClass) : Moves g s (t.merged d c) := by
  have hc := h.dom (DomainRec.quiet_wakeClass (t.dom d) (some (mergedClass (t.dom d).wakeClass c)))
    (f := fun r => { r with wakeClass := some (mergedClass (t.dom d).wakeClass c) })
  unfold State.merged
  dsimp only
  split
  · exact hc.slots _
  · exact hc.dom (DomainRec.quiet_idleTimer _ _)
  · exact hc

theorem Moves.settleAdmission (h : Moves g s t) (d : Domain) (c : WakeClass) (cause : Cause) (o : WakeOutcome) :
    Moves g s (t.settleAdmission d c cause o) := by
  have token : Moves g s (if t.consumes c o then t.consumeToken d else t) := .ite (fun _ => h.tokens d _) (fun _ => h)
  exact .ite (fun _ => token.trigger d cause) (fun _ => token)

theorem Moves.wakeRequest (h : Moves g s t) (d : Domain) (c : WakeClass) (cause : Cause) :
    Moves g s (t.wakeRequest d c cause) := by
  have hdom : ∀ o j, ((t.settleAdmission d c cause o).writeCause d cause c o j).dom d = t.dom d := fun o j =>
    State.dom_of_domains (by simp) d
  have noted := (h.settleAdmission d c cause (t.judge d c)).writeCause d cause c (t.judge d c) (t.namedBuffer (t.judge d c))
  unfold State.wakeRequest State.actOn
  dsimp only
  split
  · next ho => exact noted.admitted d c (by rw [hdom]; exact State.judge_admitted ho)
  · exact noted.merged d c
  · exact noted

/-! ### Sheddings (R97, R125, R127) -/

theorem DomainRec.quiet_stopReady (r : DomainRec) : r.Quiet r.stopReady := ⟨rfl, rfl, rfl, rfl, fun h => ⟨h.1, h.2, h.3⟩⟩

theorem Moves.shedDomain (h : Moves g s t) (d : Domain) : Moves g s (t.shedDomain d) := by
  unfold State.shedDomain
  split
  · next hst => exact h.move (.wind t d _ hst)
  · exact h.move (.off t d _ _ rfl (DomainRec.quiet_stopReady _))
  · exact h.move (.off t d _ _ rfl (DomainRec.quiet_stopReady _))
  · exact h

theorem Moves.shedOne (h : Moves g s t) (d : Domain) : Moves g s (t.shedOne d) := by
  unfold State.shedOne
  split
  · exact (h.writeCause ..).shedDomain d
  · exact h

theorem Moves.shed (h : Moves g s t) : Moves g s t.shed := h.foldl (fun _ d => Moves.refl.shedOne d) _

theorem Moves.setTier (h : Moves g s t) : Moves g s t.setTier := h.account id

theorem Moves.retier (h : Moves g s t) : Moves g s t.retier := .ite (fun _ => h.setTier.shed) (fun _ => h.setTier)

/-! ### Slot grants (R78, R105, R123) -/

theorem Account.addCharge_le (a : Account) (n : Nat) : (a.addCharge n).spent ≤ Config.chargeMax := Nat.min_le_left _ _

theorem Moves.addCharge (h : Moves g s t) (n : Nat) : Moves g s (t.updAccount (fun a => a.addCharge n)) :=
  h.account (fun _ => Account.addCharge_le _ _)

/-- The domain that a grant goes to waits for it: QUEUED, and so not AWAKE or WINDING. -/
theorem Moves.grantTo (h : Moves g s t) (d : Domain) (hst : g → (t.dom d).state.activates = false) :
    Moves g s (t.grantTo d) := by
  have powering := ((h.slots (fun a => { a.leaveQueue d with holders := a.holders.set d (some .powering) })).dom (d := d)
    (f := fun r => { r with slotHeld := true }) ⟨rfl, rfl, rfl, rfl, fun b => ⟨b.1, b.2, b.3⟩⟩).move
    (.enter _ d .powering (fun hg => by simpa using hst hg))
  have ready : ∀ {u : State}, Moves g s u →
      Moves g s (u.updDom d (fun r => { r with retriesUsed := 0, readyTimer := some r.params.readyTimeout })) := fun hu =>
    hu.dom ⟨rfl, rfl, rfl, rfl, fun b => ⟨b.1, b.2, b.3⟩⟩
  exact .ite (fun _ => (ready (.ite (fun _ => powering.addCharge _) (fun _ => powering))).retier)
    (fun _ => ready (.ite (fun _ => powering.addCharge _) (fun _ => powering)))

theorem Moves.grantSlot (h : Moves g s t) (ht : g → t.Tidy) : Moves g s t.grantSlot := by
  refine .ite (fun _ => ?_) (fun _ => h)
  split
  · next e rest hq =>
    exact h.grantTo e.domain (fun hg => by rw [(ht hg).queued e (by rw [hq]; exact List.mem_cons_self)]; rfl)
  · exact h

/-! ### Readiness (R79, R85, R106) -/

theorem Moves.releaseSlot (h : Moves g s t) (d : Domain) : Moves g s (t.releaseSlot d) :=
  (h.slots _).dom ⟨rfl, rfl, rfl, rfl, fun b => ⟨b.1, b.2, b.3⟩⟩

theorem Moves.slotReady (h : Moves g s t) (d : Domain) : Moves g s (t.slotReady d) := by
  unfold State.slotReady
  split
  · exact .ite (fun _ => h.releaseSlot d) (fun _ => h.slots _)
  · exact h

theorem Moves.becomeReady (h : Moves g s t) (d : Domain) (hst : (t.dom d).state = .powering) :
    Moves g s (t.becomeReady d) := by
  refine Moves.slotReady (Moves.move (Moves.dom (Moves.dom h ?_) ?_) (.enter _ d .awake (fun _ => ?_))) d
  · exact ⟨rfl, rfl, rfl, rfl, fun b => ⟨b.1, b.2, b.3⟩⟩
  · exact ⟨rfl, rfl, rfl, rfl, fun b => ⟨b.1, b.2, b.3⟩⟩
  · simp [hst, DomainState.activates]

/-! ### Frames that a domain recognises (R82) -/

theorem Moves.ignoreFrame (h : Moves g s t) (d : Domain) : Moves g s (t.ignoreFrame d) :=
  h.dom ⟨rfl, rfl, rfl, rfl, fun b => ⟨b.1, b.2, satInc_le b.3⟩⟩

theorem DomainRec.quiet_stopAtFault (r : DomainRec) : r.Quiet r.stopAtFault :=
  ⟨rfl, rfl, rfl, rfl, fun b => ⟨b.1, satInc_le b.2, b.3⟩⟩

theorem DomainRec.quiet_stopWinding (r : DomainRec) : r.Quiet r.stopWinding := ⟨rfl, rfl, rfl, rfl, fun h => ⟨h.1, h.2, h.3⟩⟩

theorem DomainRec.quiet_stopAll (r : DomainRec) : r.Quiet r.stopAll := ⟨rfl, rfl, rfl, rfl, fun h => ⟨h.1, h.2, h.3⟩⟩

theorem Moves.windingAsleep (h : Moves g s t) (d : Domain) : Moves g s (t.windingAsleep d) :=
  h.move (.off t d _ _ rfl (DomainRec.quiet_stopWinding _))

theorem Moves.recognise (h : Moves g s t) (d : Domain) (i : Ident) : Moves g s (t.recognise d i) := by
  have fault : Moves g s (t.faultFrame d) :=
    .ite (fun _ => h.move (.off t d _ _ rfl (DomainRec.quiet_stopAtFault _))) (fun _ => h.ignoreFrame d)
  have announce : Moves g s (if (t.dom d).params.announceId = some i then t.announceFrame d else t) :=
    .ite (fun _ => .ite (fun hst => h.becomeReady d hst.1) (fun _ => h.ignoreFrame d)) (fun _ => h)
  have sleepReady : ∀ {u}, Moves g s u →
      Moves g s (if (t.dom d).params.sleepReadyId = some i then u.sleepReadyFrame d else u) := fun hu =>
    .ite (fun _ => .ite (fun _ => hu.windingAsleep d) (fun _ => hu.ignoreFrame d)) (fun _ => hu)
  have activity : ∀ {u : State}, Moves g s u → Moves g s (u.activityFrame d i) := fun hu =>
    .ite (fun _ => hu.dom (DomainRec.quiet_idleTimer _ _)) (fun _ => hu)
  exact .ite (fun _ => fault) (fun _ => activity (sleepReady announce))

/-! ### Park transitions and resets (R99, R113, R116, R117, R133, R173) -/

theorem Moves.parkDomain (h : Moves g s t) (d : Domain) : Moves g s (t.parkDomain d) := by
  unfold State.parkDomain
  split
  · exact h
  · exact h
  · exact (h.dom (DomainRec.quiet_wakeClass _ _)).slots _
  · exact h.dom ⟨rfl, rfl, rfl, rfl, fun b => ⟨b.1, b.2, b.3⟩⟩
  · exact h.dom (DomainRec.quiet_wakeClass _ _)

theorem Moves.parkEnter (h : Moves g s t) : Moves g s t.parkEnter := by
  unfold State.parkEnter
  dsimp only
  have entered := h.move (.mode t .park)
  generalize ({ t with management := { t.management with mode := .park } } : State).rederiveAll = u at entered ⊢
  have epoch : Moves g s { u with management := { u.management with epoch := u.management.epoch + 1 } } :=
    entered.aside rfl rfl rfl (fun b => { b with })
  have domains := Moves.eachDomain epoch (f := State.parkDomain) (fun _ d => Moves.refl.parkDomain d)
  have account := Moves.account domains (f := fun a => { a with spent := 0 }) (fun _ => Nat.zero_le _)
  have refilled := account.eachDomain (f := State.refillAtPark) (fun _ d => Moves.refl.tokens d _)
  exact refilled.setTier.shed.openBuffer

theorem Moves.parkExit (h : Moves g s t) : Moves g s t.parkExit :=
  Moves.eachDomain (Moves.captureParkExit (h.move (.mode t .run)))
    (fun _ d => .ite (fun _ => Moves.refl.wakeRequest d 0 .exit) (fun _ => .refl))

theorem Moves.managementReset (h : Moves g s t) : Moves g s t.managementReset := by
  unfold State.managementReset State.resetWake
  exact Moves.wakeRequest (h.move (.reset t t.management.afterReset t.timeBase t.pending rfl rfl)) _ _ _

theorem Moves.powerOn (h : Moves g s t) (strap : BitVec 3) : Moves g s (t.powerOn strap) := by
  unfold State.powerOn State.resetWake
  exact Moves.wakeRequest (h.move (.reset t (Management.atPowerOn strap) 0 t.pending rfl rfl)) _ _ _

end Sys2Proof.Machine
end

section
/-! Every command is a run of moves. -/

namespace Sys2Proof.Machine

variable {g : Prop} {s t : State}

/-! ### Answers of the Management Unit (R162 to R164, R171, R172) -/

theorem Moves.frameHeard (h : Moves g s t) (p : Port) {f : PortUnit → PortUnit} (hf : ∀ u : PortUnit, u.Quiet (f u)) :
    Moves g s (t.frameHeard p f) := h.port ((hf _).trans (PortUnit.quiet_leaveBlocked _))

theorem Moves.respond (h : Moves g s t) (code tag : Byte) (a : Answer) : Moves g s (t.respond code tag a) :=
  h.port (PortUnit.quiet_offerManagement _ rfl)

theorem Moves.setPrepared (h : Moves g s t) (b : Bool) : Moves g s (t.setPrepared b) :=
  h.aside rfl rfl rfl (fun b => { b with })

theorem Moves.requestFrame (h : Moves g s t) {data : List Byte} {manage : State → State}
    (hm : ∀ u, Moves g u (manage u)) : Moves g s (t.requestFrame data manage) := by
  have heard := h.frameHeard Port.B PortUnit.quiet_countReceived
  exact .ite (fun _ => .ite (fun _ => heard) (fun _ => heard.trans (hm _))) (fun _ => heard.port (PortUnit.quiet_store _ _))

theorem Moves.manage (h : Moves g s t) {code tag : Byte} {args : List Byte} {n : Nat} {body : State → State × Answer}
    (hb : ∀ u, Moves g u (body u).1) : Moves g s (t.manage code tag args n body) :=
  .ite (fun _ => (h.setPrepared false).respond ..) (fun _ => Moves.respond ((h.setPrepared false).trans (hb _)) ..)

/-- A request that changes nothing but what its body changes. -/
theorem moves_manage {code tag : Byte} {args : List Byte} {n : Nat} {body : State → State × Answer}
    (hb : ∀ u, Moves g u (body u).1) (u : State) : Moves g u (u.manage code tag args n body) := Moves.manage .refl hb

theorem moves_readAnswer (data : Option (List Byte)) (u : State) : Moves g u (readAnswer u data).1 := by
  unfold readAnswer; split <;> exact .refl

/-! ### The requests of the Management Unit (R167 to R172, R112, R115) -/

theorem moves_setClock (c : BitVec 32) (u : State) : Moves g u { u with management := { u.management with clock := c } } :=
  Moves.refl.aside rfl rfl rfl (fun b => { b with })

theorem moves_answerInjectFrame (args : List Byte) (u : State) : Moves g u (answerInjectFrame args u).1 := by
  unfold answerInjectFrame
  split
  · exact .refl
  · split
    · exact .refl
    · split
      · exact .refl
      · split
        · exact .refl
        · split
          · exact .refl
          · next hroom =>
            exact Moves.refl.aside rfl rfl rfl (fun b => { b with injection := by simpa using Nat.not_le.mp hroom })

theorem moves_manageReset (tag : Byte) (args : List Byte) (u : State) : Moves g u (manageReset tag args u) := by
  have waiting : Moves g u u.resetWaiting := Moves.refl.aside rfl rfl rfl (fun b => { b with })
  have offered : Moves g u (u.resetWaiting.updPort Port.B (fun v =>
      v.offerManagement (u.resetWaiting.responseEntry 0x3F tag (.bare .ok) true))) :=
    waiting.port (PortUnit.quiet_offerManagement _ rfl)
  exact .ite (fun _ => .ite (fun _ => offered) (fun _ => offered.managementReset)) (fun _ => Moves.refl.respond ..)

theorem moves_manageUnknown (data : List Byte) (u : State) : Moves g u (manageUnknown data u) := by
  unfold manageUnknown
  split <;> exact (Moves.refl.setPrepared false).respond ..

theorem moves_answerParkEnter (u : State) : Moves g u (answerParkEnter u).1 := by
  unfold answerParkEnter
  split
  · dsimp only
    exact Moves.refl.parkEnter
  · exact .refl

theorem moves_answerParkExit (u : State) : Moves g u (answerParkExit u).1 := by
  unfold answerParkExit
  split
  · dsimp only
    exact Moves.refl.parkExit
  · exact .refl

/-! ### The requests on the Rule Table (R36 to R43, R46) -/

/-- A change of the Match Engine that keeps the hit counts. -/
theorem Moves.engine (h : Moves g s t) {f : Engine → Engine} (hf : (f t.engine).hits = t.engine.hits)
    (lists : t.ContributionsFit → (t.updEngine f).ContributionsFit := by exact id) : Moves g s (t.updEngine f) :=
  h.aside rfl rfl rfl (fun b => { b with hits := by rw [State.updEngine_engine, hf]; exact b.hits }) lists

/-- A commit empties every contribution list (R41). -/
theorem State.ContributionsFit.commit (h : s.ContributionsFit) : s.commit.ContributionsFit := fun i => by
  obtain ⟨-, staging, -⟩ := h i
  have empty : s.commit.contributions.get i = [] := Tab.get_replicate _ _
  rw [empty]
  exact ⟨staging, staging, staging.1, List.nodup_nil, List.Pairwise.nil, fun _ he => absurd he List.not_mem_nil⟩

theorem Moves.commitIfReady (h : Moves g s t) : Moves g s t.commitIfReady :=
  .ite (fun _ => h.aside rfl rfl rfl (fun b => { b with hits := fun i => by simp [State.commit] })
    State.ContributionsFit.commit) (fun _ => h)

/-- A change of the staging groups that keeps their thresholds between 1 and 8 (R45, R46). -/
theorem State.ContributionsFit.staging (h : s.ContributionsFit) {f : Engine → Engine}
    (hactive : (f s.engine).active.groups = s.engine.active.groups)
    (hstaging : ∀ i, 1 ≤ ((f s.engine).staging.groups.get i).threshold ∧ ((f s.engine).staging.groups.get i).threshold ≤ 8) :
    (s.updEngine f).ContributionsFit := fun i => by
  obtain ⟨active, -, lists⟩ := h i
  rw [State.updEngine_engine, hactive]
  exact ⟨active, hstaging i, lists⟩

theorem moves_answerTableWriteEnable (u : State) : Moves g u (answerTableWriteEnable u).1 := by
  unfold answerTableWriteEnable
  dsimp only
  exact Moves.refl.engine rfl

theorem moves_answerTableWriteDisable (u : State) : Moves g u (answerTableWriteDisable u).1 := by
  unfold answerTableWriteDisable
  split
  · exact .refl
  · dsimp only
    exact Moves.refl.engine rfl

theorem moves_answerStageRow (part : Option (Row → Row)) (args : List Byte) (u : State) :
    Moves g u (answerStageRow part args u).1 := by
  unfold answerStageRow
  split
  · exact .refl
  · split
    · exact .refl
    · split
      · exact .refl
      · split
        · exact .refl
        · dsimp only
          exact Moves.refl.engine rfl

theorem clampTo_le {low high : Nat} (h : low ≤ high) (n : Nat) : low ≤ clampTo low high n ∧ clampTo low high n ≤ high := by
  unfold clampTo; omega

theorem moves_answerStageGroup (args : List Byte) (u : State) : Moves g u (answerStageGroup args u).1 := by
  unfold answerStageGroup
  split
  · exact .refl
  · split
    · exact .refl
    · split
      · exact .refl
      · dsimp only
        refine Moves.refl.engine rfl (fun c => c.staging rfl (fun i => ?_))
        rw [Tab.get_set]
        split
        · exact clampTo_le (by decide) _
        · exact (c i).2.1

theorem moves_manageCommitTable (tag : Byte) (args : List Byte) (u : State) : Moves g u (manageCommitTable tag args u) := by
  have prepared : Moves g u (u.setPrepared false) := Moves.refl.setPrepared false
  unfold manageCommitTable
  dsimp only
  split
  · exact prepared.respond ..
  · exact ((prepared.engine rfl).respond ..).commitIfReady

theorem moves_answerReadRowPart (args : List Byte) (u : State) : Moves g u (answerReadRowPart args u).1 := by
  unfold answerReadRowPart
  dsimp only
  split
  · exact moves_readAnswer _ u
  · split <;> exact .refl

theorem moves_answerSetProtectBoundary (args : List Byte) (u : State) :
    Moves g u (answerSetProtectBoundary args u).1 := by
  unfold answerSetProtectBoundary
  dsimp only
  split
  · exact .refl
  · split
    · exact .refl
    · split
      · exact .refl
      · dsimp only
        exact Moves.refl.engine rfl

/-! ### The requests on domains and slots (R74, R94 to R96, R108) -/

/-- A parameter write keeps the port, or it writes the port alone, of a code that only an ASLEEP domain takes. -/
theorem paramWrite_port {d : Domain} {q q' : DomainParams} {code v m : Nat} (h : paramWrite d q code v m = some q') :
    q'.port = q.port ∨ code = 1 ∧ (d = Domain.D0 ↔ q'.port = Port.B) := by
  unfold paramWrite at h
  split at h
  case h_2 =>
    right
    simp only [Option.map_eq_some_iff] at h
    obtain ⟨p, hp, rfl⟩ := h
    unfold portFor at hp
    split at hp
    · split at hp
      · next hiff => exact ⟨rfl, by simpa [← Option.some.inj hp] using hiff⟩
      · cases hp
    · cases hp
  all_goals
    left
    grind [Option.map_eq_some_iff]

theorem Moves.setParams (h : Moves g s t) (d : Domain) (new : DomainParams)
    (hp : new.port = (t.dom d).params.port ∨ (t.dom d).state = .asleep ∧ (d = Domain.D0 ↔ new.port = Port.B))
    (old : DomainParams) : Moves g s (t.setParams d old new) := by
  have written := h.move (.params t d new hp)
  exact Moves.tokens (.ite (fun _ => written.move (.off _ d _ _ rfl (DomainRec.quiet_stopAll _))) (fun _ => written)) _ _

theorem moves_answerSetDomainParameter (args : List Byte) (u : State) :
    Moves g u (answerSetDomainParameter args u).1 := by
  unfold answerSetDomainParameter
  dsimp only
  split
  · exact .refl
  · next d _ =>
    split
    · exact .refl
    · split
      · exact .refl
      · next hstate =>
        split
        · exact .refl
        · next new hnew =>
          refine Moves.refl.setParams d new ?_ _
          rcases paramWrite_port hnew with hport | ⟨hcode, hiff⟩
          · exact .inl hport
          · exact .inr ⟨by simpa [hcode] using hstate, hiff⟩

theorem moves_answerReadDomain (args : List Byte) (u : State) : Moves g u (answerReadDomain args u).1 := by
  unfold answerReadDomain
  split
  · exact .refl
  · exact moves_readAnswer _ u

theorem moves_answerDomainWake (args : List Byte) (u : State) : Moves g u (answerDomainWake args u).1 := by
  unfold answerDomainWake
  split
  · exact (Moves.refl.wakeRequest ..).closeIfComplete
  · exact .refl
  · exact .refl
  · exact .refl

theorem moves_answerDomainSleep (args : List Byte) (u : State) : Moves g u (answerDomainSleep args u).1 := by
  unfold answerDomainSleep
  split
  · exact .refl
  · next d _ =>
    split
    · exact .refl
    · exact Moves.refl.move (.off u d _ _ rfl (DomainRec.quiet_stopReady _))
    · exact Moves.refl.move (.off u d _ _ rfl (DomainRec.quiet_stopReady _))
    · next hst => exact Moves.refl.move (.wind u d _ hst)
    · exact .refl
    · exact .refl

theorem moves_answerDomainClearFault (args : List Byte) (u : State) : Moves g u (answerDomainClearFault args u).1 := by
  unfold answerDomainClearFault
  split
  · exact .refl
  · next d _ =>
    split
    · exact Moves.refl.move (.off u d _ _ rfl ⟨rfl, rfl, rfl, rfl, fun b => ⟨b.1, b.2, b.3⟩⟩)
    · exact .refl

theorem moves_answerSetSlots (args : List Byte) (u : State) : Moves g u (answerSetSlots args u).1 := by
  unfold answerSetSlots
  dsimp only
  split
  · exact .refl
  · dsimp only
    exact Moves.refl.slots _

/-! ### The requests on the Charge Account and the Cause Queue (R121, R140) -/

theorem moves_answerSetBudget (args : List Byte) (u : State) : Moves g u (answerSetBudget args u).1 := by
  have settings : Moves g u (u.updAccount (fun a =>
      a.withSettings (argWord args 2) (argByte args 4).toNat (argByte args 5).toNat (argWord args 6))) :=
    Moves.refl.account id
  exact .ite (fun _ => settings.retier) (fun _ => settings)

theorem moves_takeCauses (tag : Byte) (n : Nat) (u : State) : Moves g u (u.takeCauses tag n) := by
  have dropped : ∀ {v : State}, Moves g u v → ∀ m, Moves g u (v.dropCauses m) := fun hv m =>
    hv.aside rfl rfl rfl (fun b =>
      { b with
        causes := by have := b.causes; simp [State.dropCauses] at this ⊢; omega
        overflow := Nat.zero_le _ })
  exact .ite (fun _ => Moves.refl.respond ..)
    (fun _ => Moves.foldl (fun v _ => Moves.refl.port (PortUnit.quiet_offerManagement _ rfl)) _
      (dropped (Moves.refl.respond ..) _))

theorem moves_manageTakeCauses (tag : Byte) (args : List Byte) (u : State) : Moves g u (manageTakeCauses tag args u) := by
  have prepared : Moves g u (u.setPrepared false) := Moves.refl.setPrepared false
  exact .ite (fun _ => prepared.respond ..)
    (fun _ => .ite (fun _ => prepared.respond ..) (fun _ => prepared.trans (moves_takeCauses tag _ _)))

/-! ### The requests on the Capture Store (R155 to R158) -/

theorem moves_answerSetCaptureMode (args : List Byte) (u : State) : Moves g u (answerSetCaptureMode args u).1 := by
  unfold answerSetCaptureMode
  split
  · exact .refl
  · split
    · exact .refl
    · exact Moves.refl.capture rfl rfl rfl rfl rfl
        (fun b => ⟨b.loss, fun x hx => by rw [List.eq_of_mem_replicate hx]; exact Nat.zero_le _⟩)

theorem moves_answerReadCaptureDescriptor (args : List Byte) (u : State) :
    Moves g u (answerReadCaptureDescriptor args u).1 := by
  unfold answerReadCaptureDescriptor
  dsimp only
  split
  · exact moves_readAnswer _ u
  · split
    · exact moves_readAnswer _ u
    · exact .refl

theorem moves_answerReadCaptureFrame (args : List Byte) (u : State) : Moves g u (answerReadCaptureFrame args u).1 := by
  unfold answerReadCaptureFrame
  dsimp only
  split
  · split
    · exact moves_readAnswer _ u
    · exact .refl
  · exact .refl

theorem Moves.release (h : Moves g s t) (j : Nat) : Moves g s (t.release j) := by
  refine h.move (.quiet (State.mode_of_fixed (by simp)) (fun p => ?_) (fun d => ?_) (fun b => ?_) ?_)
  · have hp : (t.release j).port p = if (t.port p).replay = some j then
        { t.port p with replay := none, abortDue := false } else t.port p := Tab.get_map _ _ _
    rw [hp]
    split
    · exact PortUnit.quiet_replay _ _ _
    · exact .refl _
  · rw [State.dom_of_domains (t.release_domains j)]
    exact .refl _
  · exact b.of_fixed (by simp) (by simp) (by simp) (fun c => c.modify j (fun _ _ => satAdd_le _ _ _))
  · exact State.ContributionsFit.of_fixed (by simp)

theorem moves_answerReleaseCapture (u : State) : Moves g u (answerReleaseCapture u).1 := by
  unfold answerReleaseCapture
  dsimp only
  split
  · exact Moves.refl.release _
  · exact .refl

/-! ### The requests on lines and timers (R62 to R68) and on ports (R19) -/

theorem LineUnit.withPeriod_queue (u : LineUnit) (n : Nat) : (u.withPeriod n).queue = u.queue := by
  unfold LineUnit.withPeriod; split <;> rfl

theorem moves_answerConfigureLine (args : List Byte) (u : State) : Moves g u (answerConfigureLine args u).1 := by
  unfold answerConfigureLine
  split
  · exact .refl
  · split
    · exact Moves.refl.aside rfl rfl rfl
        (fun b => { b with line := by rw [LineUnit.withPeriod_queue]; exact b.line })
    · exact .refl

theorem moves_answerReadLines (args : List Byte) (u : State) : Moves g u (answerReadLines args u).1 := by
  unfold answerReadLines
  split
  · exact .refl
  · exact Moves.refl.aside rfl rfl rfl (fun b => { b with })
  · exact .refl
  · exact .refl
  · exact .refl

/-- A change of one timer record that keeps its lost counter within its range. -/
theorem Moves.timer (h : Moves g s t) (i : TimerIx) {f : TimerRec → TimerRec}
    (hf : ∀ r : TimerRec, r.lost ≤ Config.byteMax → (f r).lost ≤ Config.byteMax) : Moves g s (t.updTimer i f) :=
  h.aside rfl rfl rfl (fun b =>
    { b with
      lost := fun k => by
        change ((t.timerUnit.timers.modify i f).get k).lost ≤ _
        rw [Tab.get_modify]
        split
        · exact hf _ (b.lost k)
        · exact b.lost k })

theorem moves_answerConfigureTimer (args : List Byte) (u : State) : Moves g u (answerConfigureTimer args u).1 := by
  unfold answerConfigureTimer
  split
  · exact .refl
  · split
    · exact .refl
    · split
      · exact .refl
      · exact Moves.refl.timer _ (fun _ h => h)

theorem moves_answerStartTimer (args : List Byte) (u : State) : Moves g u (answerStartTimer args u).1 := by
  unfold answerStartTimer
  split
  · exact .refl
  · exact Moves.refl.timer _ (fun _ h => h)

theorem moves_answerStopTimer (args : List Byte) (u : State) : Moves g u (answerStopTimer args u).1 := by
  unfold answerStopTimer
  split
  · exact .refl
  · exact Moves.refl.timer _ (fun _ h => h)

theorem moves_answerReadPortStatus (args : List Byte) (u : State) : Moves g u (answerReadPortStatus args u).1 := by
  unfold answerReadPortStatus
  split
  · exact .refl
  · split
    · exact .refl
    · exact .ite (fun _ => Moves.refl.port (PortUnit.quiet_clearFlags _)) (fun _ => .refl)

/-! ### The requests whose answer a body gives -/

section
variable (tag : Byte) (args : List Byte) (u : State)

theorem moves_manageIdentify : Moves g u (manageIdentify tag args u) :=
  moves_manage (fun _ => .refl) u

theorem moves_manageReadStatus : Moves g u (manageReadStatus tag args u) :=
  moves_manage (fun v => moves_readAnswer _ v) u

theorem moves_manageSetClock : Moves g u (manageSetClock tag args u) :=
  moves_manage (moves_setClock _) u

theorem moves_manageInjectFrame : Moves g u (manageInjectFrame tag args u) :=
  moves_manage (moves_answerInjectFrame _) u

theorem moves_manageParkEnter : Moves g u (manageParkEnter tag args u) :=
  moves_manage moves_answerParkEnter u

theorem moves_manageParkExit : Moves g u (manageParkExit tag args u) :=
  moves_manage moves_answerParkExit u

theorem moves_manageTableWriteEnable : Moves g u (manageTableWriteEnable tag args u) :=
  moves_manage moves_answerTableWriteEnable u

theorem moves_manageTableWriteDisable : Moves g u (manageTableWriteDisable tag args u) :=
  moves_manage moves_answerTableWriteDisable u

theorem moves_manageStageRowMatch : Moves g u (manageStageRowMatch tag args u) :=
  moves_manage (moves_answerStageRow _ _) u

theorem moves_manageStageRowDataTest : Moves g u (manageStageRowDataTest tag args u) :=
  moves_manage (moves_answerStageRow _ _) u

theorem moves_manageStageRowAction : Moves g u (manageStageRowAction tag args u) :=
  moves_manage (moves_answerStageRow _ _) u

theorem moves_manageStageRowWakeSet : Moves g u (manageStageRowWakeSet tag args u) :=
  moves_manage (moves_answerStageRow _ _) u

theorem moves_manageStageGroup : Moves g u (manageStageGroup tag args u) :=
  moves_manage (moves_answerStageGroup _) u

theorem moves_manageReadRowPart : Moves g u (manageReadRowPart tag args u) :=
  moves_manage (moves_answerReadRowPart _) u

theorem moves_manageReadHits : Moves g u (manageReadHits tag args u) :=
  moves_manage (fun v => moves_readAnswer _ v) u

theorem moves_manageSetProtectBoundary : Moves g u (manageSetProtectBoundary tag args u) :=
  moves_manage (moves_answerSetProtectBoundary _) u

theorem moves_manageSetDomainParameter : Moves g u (manageSetDomainParameter tag args u) :=
  moves_manage (moves_answerSetDomainParameter _) u

theorem moves_manageReadDomain : Moves g u (manageReadDomain tag args u) :=
  moves_manage (moves_answerReadDomain _) u

theorem moves_manageDomainWake : Moves g u (manageDomainWake tag args u) :=
  moves_manage (moves_answerDomainWake _) u

theorem moves_manageDomainSleep : Moves g u (manageDomainSleep tag args u) :=
  moves_manage (moves_answerDomainSleep _) u

theorem moves_manageDomainClearFault : Moves g u (manageDomainClearFault tag args u) :=
  moves_manage (moves_answerDomainClearFault _) u

theorem moves_manageSetSlots : Moves g u (manageSetSlots tag args u) :=
  moves_manage (moves_answerSetSlots _) u

theorem moves_manageSetBudget : Moves g u (manageSetBudget tag args u) :=
  moves_manage (moves_answerSetBudget _) u

theorem moves_manageReadAccount : Moves g u (manageReadAccount tag args u) :=
  moves_manage (fun v => moves_readAnswer _ v) u

theorem moves_manageSetCaptureMode : Moves g u (manageSetCaptureMode tag args u) :=
  moves_manage (moves_answerSetCaptureMode _) u

theorem moves_manageReadCaptureDescriptor : Moves g u (manageReadCaptureDescriptor tag args u) :=
  moves_manage (moves_answerReadCaptureDescriptor _) u

theorem moves_manageReadCaptureFrame : Moves g u (manageReadCaptureFrame tag args u) :=
  moves_manage (moves_answerReadCaptureFrame _) u

theorem moves_manageReleaseCapture : Moves g u (manageReleaseCapture tag args u) :=
  moves_manage moves_answerReleaseCapture u

theorem moves_manageConfigureLine : Moves g u (manageConfigureLine tag args u) :=
  moves_manage (moves_answerConfigureLine _) u

theorem moves_manageReadLines : Moves g u (manageReadLines tag args u) :=
  moves_manage (moves_answerReadLines _) u

theorem moves_manageConfigureTimer : Moves g u (manageConfigureTimer tag args u) :=
  moves_manage (moves_answerConfigureTimer _) u

theorem moves_manageStartTimer : Moves g u (manageStartTimer tag args u) :=
  moves_manage (moves_answerStartTimer _) u

theorem moves_manageStopTimer : Moves g u (manageStopTimer tag args u) :=
  moves_manage (moves_answerStopTimer _) u

theorem moves_manageReadPortStatus : Moves g u (manageReadPortStatus tag args u) :=
  moves_manage (moves_answerReadPortStatus _) u

theorem moves_manageResetPrepare : Moves g u (manageResetPrepare tag args u) :=
  (Moves.refl.setPrepared true).respond ..

end

/-! ### A request frame (R162) -/

/-- Whatever request a frame stands for, its execution is a run of moves. -/
theorem moves_manageData (data : List Byte) (u : State) : Moves g u (manageData data u) := by
  unfold manageData
  generalize decodeRequest data = i
  cases i with
  | identify tag args => exact moves_manageIdentify tag args u
  | readStatus tag args => exact moves_manageReadStatus tag args u
  | setClock tag args => exact moves_manageSetClock tag args u
  | injectFrame tag args => exact moves_manageInjectFrame tag args u
  | resetPrepare tag args => exact moves_manageResetPrepare tag args u
  | reset tag args => exact moves_manageReset _ _ u
  | parkEnter tag args => exact moves_manageParkEnter tag args u
  | parkExit tag args => exact moves_manageParkExit tag args u
  | tableWriteEnable tag args => exact moves_manageTableWriteEnable tag args u
  | tableWriteDisable tag args => exact moves_manageTableWriteDisable tag args u
  | stageRowMatch tag args => exact moves_manageStageRowMatch tag args u
  | stageRowDataTest tag args => exact moves_manageStageRowDataTest tag args u
  | stageRowAction tag args => exact moves_manageStageRowAction tag args u
  | stageRowWakeSet tag args => exact moves_manageStageRowWakeSet tag args u
  | stageGroup tag args => exact moves_manageStageGroup tag args u
  | commitTable tag args => exact moves_manageCommitTable _ _ u
  | readRowPart tag args => exact moves_manageReadRowPart tag args u
  | readHits tag args => exact moves_manageReadHits tag args u
  | setProtectBoundary tag args => exact moves_manageSetProtectBoundary tag args u
  | setDomainParameter tag args => exact moves_manageSetDomainParameter tag args u
  | readDomain tag args => exact moves_manageReadDomain tag args u
  | domainWake tag args => exact moves_manageDomainWake tag args u
  | domainSleep tag args => exact moves_manageDomainSleep tag args u
  | domainClearFault tag args => exact moves_manageDomainClearFault tag args u
  | setSlots tag args => exact moves_manageSetSlots tag args u
  | setBudget tag args => exact moves_manageSetBudget tag args u
  | readAccount tag args => exact moves_manageReadAccount tag args u
  | takeCauses tag args => exact moves_manageTakeCauses _ _ u
  | setCaptureMode tag args => exact moves_manageSetCaptureMode tag args u
  | readCaptureDescriptor tag args => exact moves_manageReadCaptureDescriptor tag args u
  | readCaptureFrame tag args => exact moves_manageReadCaptureFrame tag args u
  | releaseCapture tag args => exact moves_manageReleaseCapture tag args u
  | configureLine tag args => exact moves_manageConfigureLine tag args u
  | readLines tag args => exact moves_manageReadLines tag args u
  | configureTimer tag args => exact moves_manageConfigureTimer tag args u
  | startTimer tag args => exact moves_manageStartTimer tag args u
  | stopTimer tag args => exact moves_manageStopTimer tag args u
  | readPortStatus tag args => exact moves_manageReadPortStatus tag args u
  | _ => exact moves_manageUnknown data u

end Sys2Proof.Machine
end

section
/-! Every event is a run of moves, and so is every command and every step. -/

namespace Sys2Proof.Machine

variable {g : Prop} {s t : State}

/-! ### The Match Engine (R21, R24, R29, R30, R35, R47, R51) -/

theorem Moves.dropOldest (h : Moves g s t) (i : Fin 10) : Moves g s (t.dropOldest i) := by
  unfold State.dropOldest
  split
  · exact h.port (PortUnit.quiet_dropRx _)
  · split
    · exact h.aside rfl rfl rfl (fun b => { b with line := by have := b.line; simp; omega })
    · split
      · exact h.aside rfl rfl rfl (fun b => { b with timer := by have := b.timer; simp; omega })
      · exact h.aside rfl rfl rfl (fun b => { b with injection := by have := b.injection; simp; omega })

theorem Moves.grantMatch (h : Moves g s t) : Moves g s t.grantMatch := by
  refine .ite (fun _ => h) (fun _ => ?_)
  split
  · next i _ =>
    have granted := (h.dropOldest i).engine (f := fun e => { e with inFlight := (t.inputQueue i).head? }) rfl
    exact granted.aside rfl rfl rfl (fun b => { b with })
  · exact h

theorem hits_foldl_le {l : List RowIx} {h : Tab Nat 128} (hh : ∀ i, h.get i ≤ Config.counterMax) (i : RowIx) :
    (l.foldl (fun h i => h.modify i (satInc Config.counterMax)) h).get i ≤ Config.counterMax := by
  induction l generalizing h with
  | nil => exact hh i
  | cons k l ih =>
    refine ih (fun j => ?_)
    rw [Tab.get_modify]
    split
    · exact satInc_le (hh j)
    · exact hh j

theorem Moves.countHits (h : Moves g s t) (rows : List RowIx) : Moves g s (t.countHits rows) :=
  h.aside rfl rfl rfl (fun b => { b with hits := hits_foldl_le b.hits })

theorem Moves.countUnmatched (h : Moves g s t) (rows : List RowIx) (r : FrameRecord) :
    Moves g s (t.countUnmatched rows r) := by
  unfold State.countUnmatched
  split
  · exact h.port (PortUnit.quiet_countUnmatched _)
  · exact h

theorem Moves.recogniseRecord (h : Moves g s t) (r : FrameRecord) : Moves g s (t.recogniseRecord r) := by
  unfold State.recogniseRecord
  split
  · exact h.eachDomain (fun _ d => .ite (fun _ => Moves.refl.recognise d _) (fun _ => .refl))
  · exact h

theorem Moves.forwardAndRecord (h : Moves g s t) (ixs : List RowIx) (r : FrameRecord) :
    Moves g s (t.forwardAndRecord ixs r) := by
  have sent : ∀ fs, Moves g s (t.forwardRecord fs r) := fun fs =>
    h.foldl (fun _ _ => .ite (fun _ => Moves.refl.port (PortUnit.quiet_offerForward _ rfl)) (fun _ => .refl)) _
  exact .ite (fun _ => (sent _).recordFrame _) (fun _ => sent _)

theorem Moves.directWake (h : Moves g s t) (ixs : List RowIx) (d : Domain) : Moves g s (t.directWake ixs d) := by
  unfold State.directWake
  dsimp only
  split
  · split
    · exact h.wakeRequest ..
    · exact h
  · exact h

/-- A list that may stand as the contribution list of a group (R48 to R51). -/
structure State.ListFits (s : State) (i : GroupIx) (l : List Contribution) : Prop where
  short : l.length < (s.engine.active.groups.get i).threshold
  rows  : (l.map Contribution.row).Nodup
  order : l.Pairwise (fun a b => a.taken ≤ b.taken)
  times : ∀ e ∈ l, e.taken ≤ s.timeBase ∧ s.timeBase ≤ e.taken + (s.engine.active.groups.get i).window

theorem State.ContributionsFit.listFits (h : s.ContributionsFit) (i : GroupIx) : s.ListFits i (s.contributions.get i) := by
  obtain ⟨-, -, short, rows, order, times⟩ := h i
  exact ⟨short, rows, order, times⟩

theorem State.ListFits.sublist {i : GroupIx} {l m : List Contribution} (h : s.ListFits i l) (hm : m.Sublist l) :
    s.ListFits i m where
  short := hm.length_le.trans_lt h.short
  rows := h.rows.sublist (hm.map _)
  order := h.order.sublist hm
  times := fun e he => h.times e (hm.subset he)

theorem State.ContributionsFit.set (h : s.ContributionsFit) {i : GroupIx} {l : List Contribution} (hl : s.ListFits i l) :
    (s.setContributions i l).ContributionsFit := fun k => by
  obtain ⟨active, staging, lists⟩ := h k
  refine ⟨active, staging, ?_⟩
  rw [show (s.setContributions i l).contributions.get k = if k = i then l else s.contributions.get k from Tab.get_set _ _ _ _]
  split
  · next hk =>
    subst hk
    exact ⟨hl.short, hl.rows, hl.order, hl.times⟩
  · exact lists

theorem Moves.setContributions (h : Moves g s t) (i : GroupIx) {l : List Contribution}
    (hl : t.ContributionsFit → t.ListFits i l) : Moves g s (t.setContributions i l) :=
  h.aside rfl rfl rfl (fun b => { b with }) (fun c => c.set (hl c))

/-- A contribution that leaves the list below the threshold fits: it is the newest entry, and the only one of its row (R49). -/
theorem State.ListFits.contribute {i : GroupIx} {l : List Contribution} (h : s.ListFits i l) (row : RowIx)
    (hshort : (contribute l row s.timeBase).length < (s.engine.active.groups.get i).threshold) :
    s.ListFits i (contribute l row s.timeBase) := by
  have kept : s.ListFits i (l.filter (fun e => e.row != row)) := h.sublist List.filter_sublist
  refine ⟨hshort, ?_, ?_, fun e he => ?_⟩
  · rw [Machine.contribute, List.map_append, List.nodup_append_comm]
    refine List.nodup_cons.mpr ⟨fun hmem => ?_, kept.rows⟩
    obtain ⟨e, he, hrow⟩ := List.mem_map.mp hmem
    exact absurd hrow (by simpa using (List.mem_filter.mp he).2)
  · rw [Machine.contribute, List.pairwise_append]
    refine ⟨kept.order, List.pairwise_singleton _ _, fun a ha b hb => ?_⟩
    rw [List.mem_singleton.mp hb]
    exact (kept.times a ha).1
  · rcases List.mem_append.mp he with hk | hnew
    · exact kept.times e hk
    · rw [List.mem_singleton.mp hnew]
      exact ⟨Nat.le_refl _, Nat.le_add_right _ _⟩

theorem Moves.contributeRow (h : Moves g s t) (i : RowIx) : Moves g s (t.contributeRow i) := by
  unfold State.contributeRow
  split
  · next k _ =>
    have emptied : Moves g s (t.setContributions k []) :=
      h.setContributions k (fun c => (c.listFits k).sublist (List.nil_sublist _))
    exact .ite (fun _ => .ite
      (fun _ => emptied.eachDomain (fun _ _ => .ite (fun _ => Moves.refl.wakeRequest ..) (fun _ => .refl)))
      (fun hshort => h.setContributions k (fun c => (c.listFits k).contribute i (Nat.not_le.mp hshort)))) (fun _ => h)
  · exact h

theorem Moves.complete (h : Moves g s t) (r : FrameRecord) : Moves g s (t.complete r) := by
  unfold State.complete
  exact Moves.closeIfComplete (Moves.foldl (fun _ i => Moves.refl.contributeRow i) _
    (Moves.eachDomain ((((h.countHits _).countUnmatched _ r).recogniseRecord r).forwardAndRecord _ r)
      (fun _ d => Moves.refl.directWake _ d)))

/-! ### Park timers, refills, idle and min-awake timers (R65, R69 to R71, R84, R87, R134) -/

theorem Moves.timerEvent (h : Moves g s t) (i : TimerIx) (n : BitVec 8) : Moves g s (t.timerEvent i n) := by
  refine .ite (fun hroom => ?_) (fun _ => h.timer i (fun _ hr => satInc_le hr))
  exact h.aside rfl rfl rfl (fun b => { b with timer := by simpa using hroom })

theorem Moves.timerDue (h : Moves g s t) (i : TimerIx) : Moves g s (t.timerDue i) := by
  have expired : Moves g s (t.updTimer i TimerRec.expired) :=
    h.timer i (fun r hr => by unfold TimerRec.expired; split <;> exact hr)
  exact .ite (fun _ => .ite (fun _ => expired) (fun _ => expired.timerEvent i _)) (fun _ => h)

theorem Moves.timersDueTo (h : Moves g s t) (i : TimerIx) : Moves g s (t.timersDueTo i) :=
  .ite (fun _ => h.foldl (fun _ j => Moves.refl.timerDue j) _) (fun _ => h)

theorem Moves.refillsDueTo (h : Moves g s t) (d : Domain) : Moves g s (t.refillsDueTo d) :=
  .ite (fun _ => h.foldl (fun _ e => .ite (fun _ => Moves.refl.tokens e _) (fun _ => .refl)) _) (fun _ => h)

theorem Moves.windIfIdle (h : Moves g s t) (d : Domain) (hst : (t.dom d).state = .awake) : Moves g s (t.windIfIdle d) :=
  .ite (fun _ => h.move (.wind t d _ hst)) (fun _ => h)

theorem Moves.idleDue (h : Moves g s t) (d : Domain) : Moves g s (t.idleDue d) := by
  refine .ite (fun hd => Moves.windIfIdle (h.dom (DomainRec.quiet_idleTimer _ _)) d ?_) (fun _ => h)
  simpa using hd.1

theorem Moves.minAwakeDue (h : Moves g s t) (d : Domain) : Moves g s (t.minAwakeDue d) := by
  refine .ite (fun hd => Moves.windIfIdle (h.dom ⟨rfl, rfl, rfl, rfl, fun b => ⟨b.1, b.2, b.3⟩⟩) d ?_) (fun _ => h)
  simpa using hd.1

theorem Moves.takeDue (h : Moves g s t) : Moves g s t.takeDue :=
  (h.foldl (fun _ i => Moves.refl.timersDueTo i) _).eachDomain
    (fun _ d => ((Moves.refl.refillsDueTo d).minAwakeDue d).idleDue d)

theorem TimerRec.second_lost (r : TimerRec) : r.second.lost = r.lost := by
  unfold TimerRec.second; split <;> rfl

theorem Moves.second (h : Moves g s t) : Moves g s t.second := by
  have falls : Moves g s t.secondFalls := h.move (.quiet rfl (fun _ => .refl _)
    (fun d => by rw [show t.secondFalls.dom d = (t.dom d).second from Tab.get_map _ _ _]; exact DomainRec.quiet_second _)
    (fun b => { b with
      lost := fun i => by
        rw [show t.secondFalls.timerUnit.timers.get i = (t.timer i).second from Tab.get_map _ _ _, TimerRec.second_lost]
        exact b.lost i }) id)
  unfold State.second
  split
  · exact Moves.retier (falls.account (fun _ => Account.addCharge_le _ _))
  · exact falls

/-- Once the entries that have reached their window are gone, the others are within it a millisecond later (R50). -/
theorem State.ContributionsFit.ms (h : s.ContributionsFit) : s.expireContributions.countsMs.ContributionsFit := fun i => by
  have kept := (h.listFits i).sublist (m := s.expireContributions.contributions.get i)
    (by rw [State.expireContributions_get]; exact List.filter_sublist)
  obtain ⟨active, staging, -⟩ := h i
  refine ⟨active, staging, kept.short, kept.rows, kept.order, fun e he => ?_⟩
  have hopen : s.windowReached i e.taken = false := by
    have hmem : e ∈ s.expireContributions.contributions.get i := he
    rw [State.expireContributions_get] at hmem
    simpa using (List.mem_filter.mp hmem).2
  have hnow : s.timeBase < e.taken + (s.engine.active.groups.get i).window := by
    simpa [State.windowReached] using hopen
  exact ⟨(kept.times e he).1.trans (Nat.le_succ _), hnow⟩

/-- The removal of contributions at their window and the count of a millisecond. -/
theorem Moves.ms (h : Moves g s t) : Moves g s t.expireContributions.countsMs :=
  h.move (.quiet rfl (fun p => by rw [State.countsMs_port]; exact PortUnit.quiet_ms _)
    (fun d => by rw [State.countsMs_dom]; exact DomainRec.quiet_ms _) (fun b => { b with }) State.ContributionsFit.ms)

theorem Moves.tick (h : Moves g s t) : Moves g s t.tick := by
  unfold State.tick
  exact h.takeDue.ms

/-! ### Lines (R57 to R61) -/

theorem Moves.sampleLine (h : Moves g s t) (l : LineIx) (v : Bool) : Moves g s (t.sampleLine l v) := by
  have line : ∀ {u} (f : LineRec → LineRec), Moves g s u → Moves g s (u.updLine l f) := fun f hu =>
    hu.aside rfl rfl rfl (fun b => { b with })
  refine .ite (fun _ => ?_) (fun _ => line _ h)
  unfold State.acceptChange
  split
  · exact line _ h
  · refine .ite (fun _ => .ite (fun hroom => ?_) (fun _ => line _ (line _ h))) (fun _ => line _ h)
    exact (line (fun r => r.sampled v) h).aside rfl rfl rfl (fun b => { b with line := by simpa using hroom })
  · exact .ite (fun _ => (line _ h).parkExit) (fun _ => line _ h)

theorem Moves.sample (h : Moves g s t) (levels : BitVec 16) : Moves g s (t.sample levels) := by
  have sampled := h.foldl (fun _ l => Moves.refl.sampleLine l (levels.getLsbD l.val)) (List.finRange 16)
  unfold State.sample
  dsimp only
  generalize (List.finRange 16).foldl (fun s l => s.sampleLine l (levels.getLsbD l.val)) t = u at sampled ⊢
  exact sampled.aside rfl rfl rfl (fun b => { b with })

/-! ### Transmission (R8, R12 to R15, R150 to R155) -/

theorem Moves.startQueue (h : Moves g s t) (p : Port) (hm : (t.port p).mayStart = true) : Moves g s (t.startQueue p) :=
  .ite (fun _ => h) (fun _ => h.port (PortUnit.quiet_start hm _))

theorem Moves.endReplay (h : Moves g s t) (p : Port) (j : Nat) : Moves g s (t.endReplay p j) := by
  have served : Moves g s (t.updBuffer j (fun b => b.served p)) :=
    h.capture rfl rfl rfl rfl rfl (fun c => c.modify j (fun b hb => by simpa using hb))
  exact served.port (PortUnit.quiet_replay _ _ _)

theorem moves_transmissionStart {p : Port} (h : execTransmissionStart p s = .next t) : Moves g s t := by
  unfold execTransmissionStart at h
  split at h
  · next hm =>
    split at h
    · cases h
      exact Moves.refl.startQueue p hm
    · next j _ =>
      split at h
      · cases h
        exact Moves.refl.port (PortUnit.quiet_start hm _)
      · cases h
        refine Moves.startQueue (Moves.refl.endReplay p j) p ?_
        rw [show (s.endReplay p j).port p = { s.port p with replay := none } by simp [State.endReplay]]
        exact hm
  · cases h
    exact .refl

theorem Moves.abortReplay (h : Moves g s t) (p : Port) : Moves g s (t.abortReplay p) := by
  unfold State.abortReplay
  split
  · next j _ =>
    have given : Moves g s (t.updBuffer j (fun b => b.giveUp p)) :=
      h.capture rfl rfl rfl rfl rfl (fun c => c.modify j (fun b _ => b.giveUp_skipped_le p))
    exact given.port (PortUnit.quiet_replay _ _ _)
  · exact h.port (PortUnit.quiet_replay _ _ _)

theorem Moves.endReplayAttempt (h : Moves g s t) (p : Port) (j slot : Nat) (o : TxOutcome) :
    Moves g s (t.endReplayAttempt p j slot o) := by
  have buffer : ∀ f : Buffer → Buffer, (∀ b : Buffer, b.skipped ≤ Config.counterMax → (f b).skipped ≤ Config.counterMax) →
      Moves g s (t.updBuffer j f) := fun f hf => h.capture rfl rfl rfl rfl rfl (fun c => c.modify j hf)
  unfold State.endReplayAttempt
  split
  · have delivered := buffer (fun b => b.deliver p slot) (fun _ hb => hb)
    exact .ite (fun _ => delivered.endReplay p j) (fun _ => delivered)
  · exact .ite (fun _ => h) (fun _ => buffer _ (fun _ hb => satInc_le hb))

/-- The attempt on a port is over. -/
theorem State.accountEnd_attempt (s : State) (p : Port) (b : Bool) (o : TxOutcome) :
    ((s.accountEnd p b o).port p).attempt = (s.port p).attempt := by
  have hf : ∀ u : PortUnit, u.fail.attempt = u.attempt := fun u => by
    unfold PortUnit.fail; dsimp only; split <;> rfl
  have hw : ∀ t : State, (t.windOnBlocked p).port p = t.port p := fun t => by
    rw [State.port, State.windOnBlocked_ports, State.port]
  unfold State.accountEnd State.accountFailure
  split
  · split
    · rfl
    · simp
  · rfl
  · split
    · simp [PortUnit.countFailure]
    · dsimp only
      split
      · rw [hw, State.port_updPort_self, hf]
      · rw [State.port_updPort_self, hf]

theorem State.accountEnd_fwd (s : State) (p q : Port) (b : Bool) (o : TxOutcome) :
    ((s.accountEnd p b o).port q).fwd = (s.port q).fwd := by
  have hf : ∀ u : PortUnit, u.fail.fwd = u.fwd := fun u => by
    unfold PortUnit.fail; dsimp only; split <;> rfl
  have hw : ∀ t : State, (t.windOnBlocked p).port q = t.port q := fun t => by
    rw [State.port, State.windOnBlocked_ports, State.port]
  unfold State.accountEnd State.accountFailure
  split
  · split
    · rfl
    · rw [State.port_updPort]; split <;> rfl
  · rfl
  · split
    · rw [State.port_updPort]; split <;> rfl
    · dsimp only
      split
      · rw [hw, State.port_updPort]; split
        · exact hf _
        · rfl
      · rw [State.port_updPort]; split
        · exact hf _
        · rfl

theorem State.attemptOver_attempt (s : State) (p : Port) (a : Attempt) (o : TxOutcome) :
    ((s.attemptOver p a o).port p).attempt = none := by
  rw [State.attemptOver, State.accountEnd_attempt, State.port_updPort_self]

theorem State.attemptOver_fwd (s : State) (p q : Port) (a : Attempt) (o : TxOutcome) :
    ((s.attemptOver p a o).port q).fwd = (s.port q).fwd := by
  rw [State.attemptOver, State.accountEnd_fwd, State.port_updPort]
  split <;> rfl

/-- The end of an attempt that was asked to remove nothing. -/
theorem moves_endAttempt_plain {p : Port} {a : Attempt} {o : TxOutcome} (ended : Moves g s (s.attemptOver p a o))
    (hq : a.sending = .queueHead → a.removal = true → ∀ d i k rest, (s.port p).fwd ≠ .notice d i k :: rest) :
    Moves g s (s.endAttempt p a o) := by
  have hfwd := s.attemptOver_fwd p p a o
  have hnone := s.attemptOver_attempt p a o
  unfold State.endAttempt
  dsimp only
  rw [← State.attemptOver]
  split
  · next hsend =>
    unfold State.endQueueAttempt
    split
    · exact ended
    · next e rest hl =>
      unfold State.entrySent
      split
      · next i data b =>
        have dropped := ended.move (.sentFrame _ p i data b rest hnone hl)
        exact .ite (fun _ => dropped.managementReset) (fun _ => dropped)
      · next d i k =>
        refine .ite (fun hr => absurd (hfwd ▸ hl) (hq hsend hr d i k rest)) (fun _ => ?_)
        exact ended.move (.sentNotice _ p d i k rest hnone hl)
    · next d i k rest _ hl =>
      exact .ite (fun hr => absurd (hfwd ▸ hl) (hq hsend hr d i k rest)) (fun _ => ended)
    · exact ended
  · exact .ite (fun _ => (ended.endReplayAttempt p _ _ o).abortReplay p) (fun _ => ended.endReplayAttempt p _ _ o)

/-- The end of an attempt that was asked to remove the notice that it sends: whatever the outcome, the entry leaves the queue
and the report settles the notice field (R12, R91). -/
theorem State.endAttempt_removal {p : Port} {a : Attempt} {o : TxOutcome} {d : Domain} {i : Ident} {k : NoticeKind}
    {rest : List FwdEntry} (hsend : a.sending = .queueHead) (hr : a.removal = true)
    (hfwd : (s.port p).fwd = .notice d i k :: rest) :
    s.endAttempt p a o = ((s.attemptOver p a o).dropHead p).settleNotice d k (o == .success) := by
  have hl : ((s.attemptOver p a o).port p).fwd = .notice d i k :: rest := (s.attemptOver_fwd p p a o).trans hfwd
  unfold State.endAttempt
  dsimp only
  rw [← State.attemptOver, hsend]
  unfold State.endQueueAttempt
  rw [hl]
  cases o <;> simp [State.entrySent, hr] <;> rfl

theorem Moves.endAttempt (ht : g → s.Tidy) {p : Port} {a : Attempt} (ha : (s.port p).attempt = some a) (o : TxOutcome) :
    Moves g s (s.endAttempt p a o) := by
  by_cases hr : a.removal = true
  · by_cases hnotice : a.sending = .queueHead ∧ ∃ d i k rest, (s.port p).fwd = .notice d i k :: rest
    · obtain ⟨hsend, d, i, k, rest, hfwd⟩ := hnotice
      rw [State.endAttempt_removal hsend hr hfwd]
      exact Moves.refl.move (.removed s p a o d i k rest _ ha hr hfwd)
    · -- Without a notice at the head no removal can be asked for in a tidy state.
      refine moves_endAttempt_plain (Moves.refl.move (.ended s p a o ha (fun hg => ?_)))
        (fun hsend _ d i k rest hfwd => hnotice ⟨hsend, d, i, k, rest, hfwd⟩)
      obtain ⟨-, -, hremoval, -⟩ := (ht hg).notices
      obtain ⟨hsend, e, he, d, hd, -⟩ := hremoval p a ha hr
      cases e with
      | frame => cases hd
      | notice d' i k =>
        obtain ⟨rest, hrest⟩ := List.head?_eq_some_iff.mp he
        exact absurd ⟨hsend, d', i, k, rest, hrest⟩ hnotice
  · have hr : a.removal = false := by simpa using hr
    exact moves_endAttempt_plain (Moves.refl.move (.ended s p a o ha (fun _ => hr))) (fun _ h => by simp [hr] at h)

/-! ### Every command, and every step -/

theorem moves_frameTaken {p : Port} {f : BusFrame} (h : execFrameTaken p f s = .next t) : Moves g s t := by
  unfold execFrameTaken at h
  split at h
  · dsimp only at h
    split at h
    · cases h
      exact Moves.refl.requestFrame (moves_manageData _)
    · cases h
      exact (Moves.refl.frameHeard p PortUnit.quiet_countReceived).port (PortUnit.quiet_store _ _)
  all_goals
    cases h
    exact Moves.refl.frameHeard p PortUnit.quiet_countUnsupported

theorem moves_readyTimerExpiry {d : Domain} (h : execReadyTimerExpiry d s = .next t) : Moves g s t := by
  unfold execReadyTimerExpiry State.readyExpires State.readyFails State.recordFailure at h
  split at h
  · next hst =>
    cases h
    split
    · exact Moves.refl.becomeReady d hst.1
    · refine .ite (fun _ => Moves.refl.dom ⟨rfl, rfl, rfl, rfl, fun b => ⟨b.1, b.2, b.3⟩⟩) (fun _ => ?_)
      split
      · exact (Moves.refl.writeCause ..).move (.off _ d _ _ rfl (DomainRec.quiet_stopReady _))
      · exact Moves.refl.move (.off _ d _ _ rfl (DomainRec.quiet_stopReady _))
  · cases h
    exact .refl

theorem moves_windExpiry {d : Domain} (h : execWindExpiry d s = .next t) : Moves g s t := by
  unfold execWindExpiry at h
  split at h <;> cases h
  · exact Moves.windingAsleep (Moves.refl.dom ⟨rfl, rfl, rfl, rfl, fun b => ⟨satInc_le b.1, b.2, b.3⟩⟩) d
  · exact .refl

theorem moves_takeRequest {code tag : Byte} {args : List Byte} {manage : Byte → List Byte → State → State}
    (hm : ∀ tag args u, Moves g u (manage tag args u)) (h : takeRequest code tag args manage s = .next t) : Moves g s t := by
  cases h
  exact Moves.refl.requestFrame (hm tag _)

/-- Every command is a run of moves. -/
theorem moves_exec (ht : g → s.Tidy) {i : Instr} (h : exec i s = .next t) : Moves g s t := by
  cases i with
  | identify tag args => exact moves_takeRequest moves_manageIdentify h
  | readStatus tag args => exact moves_takeRequest moves_manageReadStatus h
  | setClock tag args => exact moves_takeRequest moves_manageSetClock h
  | injectFrame tag args => exact moves_takeRequest moves_manageInjectFrame h
  | resetPrepare tag args => exact moves_takeRequest moves_manageResetPrepare h
  | reset tag args => exact moves_takeRequest moves_manageReset h
  | parkEnter tag args => exact moves_takeRequest moves_manageParkEnter h
  | parkExit tag args => exact moves_takeRequest moves_manageParkExit h
  | tableWriteEnable tag args => exact moves_takeRequest moves_manageTableWriteEnable h
  | tableWriteDisable tag args => exact moves_takeRequest moves_manageTableWriteDisable h
  | stageRowMatch tag args => exact moves_takeRequest moves_manageStageRowMatch h
  | stageRowDataTest tag args => exact moves_takeRequest moves_manageStageRowDataTest h
  | stageRowAction tag args => exact moves_takeRequest moves_manageStageRowAction h
  | stageRowWakeSet tag args => exact moves_takeRequest moves_manageStageRowWakeSet h
  | stageGroup tag args => exact moves_takeRequest moves_manageStageGroup h
  | commitTable tag args => exact moves_takeRequest moves_manageCommitTable h
  | readRowPart tag args => exact moves_takeRequest moves_manageReadRowPart h
  | readHits tag args => exact moves_takeRequest moves_manageReadHits h
  | setProtectBoundary tag args => exact moves_takeRequest moves_manageSetProtectBoundary h
  | setDomainParameter tag args => exact moves_takeRequest moves_manageSetDomainParameter h
  | readDomain tag args => exact moves_takeRequest moves_manageReadDomain h
  | domainWake tag args => exact moves_takeRequest moves_manageDomainWake h
  | domainSleep tag args => exact moves_takeRequest moves_manageDomainSleep h
  | domainClearFault tag args => exact moves_takeRequest moves_manageDomainClearFault h
  | setSlots tag args => exact moves_takeRequest moves_manageSetSlots h
  | setBudget tag args => exact moves_takeRequest moves_manageSetBudget h
  | readAccount tag args => exact moves_takeRequest moves_manageReadAccount h
  | takeCauses tag args => exact moves_takeRequest moves_manageTakeCauses h
  | setCaptureMode tag args => exact moves_takeRequest moves_manageSetCaptureMode h
  | readCaptureDescriptor tag args => exact moves_takeRequest moves_manageReadCaptureDescriptor h
  | readCaptureFrame tag args => exact moves_takeRequest moves_manageReadCaptureFrame h
  | releaseCapture tag args => exact moves_takeRequest moves_manageReleaseCapture h
  | configureLine tag args => exact moves_takeRequest moves_manageConfigureLine h
  | readLines tag args => exact moves_takeRequest moves_manageReadLines h
  | configureTimer tag args => exact moves_takeRequest moves_manageConfigureTimer h
  | startTimer tag args => exact moves_takeRequest moves_manageStartTimer h
  | stopTimer tag args => exact moves_takeRequest moves_manageStopTimer h
  | readPortStatus tag args => exact moves_takeRequest moves_manageReadPortStatus h
  | unknownRequest data =>
    cases h
    exact Moves.refl.requestFrame (moves_manageData _)
  | powerOnReset strap =>
    cases h
    exact Moves.refl.powerOn strap
  | resetDeadlineExpiry =>
    simp only [exec, execResetDeadlineExpiry] at h
    split at h <;> cases h
    · exact Moves.refl.managementReset
    · exact .refl
  | frameTaken p f => exact moves_frameTaken h
  | commitCompletion =>
    cases h
    exact Moves.refl.commitIfReady
  | matchGrant =>
    cases h
    exact Moves.refl.grantMatch
  | evaluationCompletion =>
    simp only [exec, execEvaluationCompletion] at h
    split at h <;> cases h
    · exact Moves.complete (Moves.refl.engine (by rfl)) _
    · exact .refl
  | slotGrant =>
    cases h
    exact Moves.refl.grantSlot ht
  | readyTimerExpiry d => exact moves_readyTimerExpiry h
  | holdExpiry d =>
    simp only [exec, execHoldExpiry] at h
    split at h <;> cases h
    · exact Moves.refl.releaseSlot d
    · exact .refl
  | idleExpiry d =>
    cases h
    exact Moves.refl.idleDue d
  | minAwakeElapse d =>
    cases h
    exact Moves.refl.minAwakeDue d
  | windExpiry d => exact moves_windExpiry h
  | transmissionStart p => exact moves_transmissionStart h
  | transmissionEnd p o =>
    simp only [exec, execTransmissionEnd] at h
    split at h <;> cases h
    · next a ha => exact Moves.endAttempt ht ha o
    · exact .refl
  | recoveryTimerExpiry p =>
    simp only [exec, execRecoveryTimerExpiry] at h
    split at h <;> cases h
    · exact Moves.refl.port (PortUnit.quiet_leaveBlocked _)
    · exact .refl
  | replayStart p =>
    simp only [exec, execReplayStart] at h
    split at h <;> cases h
    · exact Moves.refl.port (PortUnit.quiet_replay _ _ _)
    · exact .refl
  | bufferFree =>
    simp only [exec, execBufferFree] at h
    split at h <;> cases h
    · exact Moves.refl.freeBuffer
    · exact .refl
  | contributionExpiry i n =>
    simp only [exec, execContributionExpiry] at h
    split at h <;> cases h
    · exact Moves.refl.setContributions _ (fun c => (c.listFits _).sublist List.filter_sublist)
    · exact .refl
  | lineSample levels =>
    simp only [exec, execLineSample, Host.Outcome.next.injEq] at h
    subst h
    exact Moves.refl.sample levels
  | parkSecond =>
    simp only [exec, execParkSecond, Host.Outcome.next.injEq] at h
    subst h
    exact Moves.refl.takeDue.second
  | refillExpiry d =>
    cases h
    exact Moves.refl.refillsDueTo d
  | timerExpiry i =>
    cases h
    exact Moves.refl.timersDueTo i

/-- Every step is a run of moves. -/
theorem moves_step (ht : g → s.Tidy) (h : step s = .next t) : Moves g s t := by
  unfold step at h
  split at h
  · next c rest _ =>
    have popped : Moves g s (s.withPending rest) := Moves.refl.aside rfl rfl rfl (fun b => { b with })
    exact popped.trans (moves_exec (fun hg => ⟨(ht hg).notices, (ht hg).queued⟩) h)
  · obtain rfl : s.tick = t := Host.Outcome.next.inj h
    exact Moves.refl.tick

/-- What every move keeps, every step keeps. -/
theorem step_keeps {P : State → Prop} (hP : ∀ s t, Move False s t → P s → P t) (h : step s = .next t) (hs : P s) : P t :=
  (moves_step False.elim h).keeps hP hs

end Sys2Proof.Machine
end

section
/-! The moves taken apart further: a *shift* is a change after which the enable lines, the port states and the bounds can be
read off at once. The notice operations of a domain are one kind of shift: they touch the notice field, the wind timer, the
notice entries and the removal flags, and nothing else. -/

namespace Sys2Proof.Machine

variable {g : Prop} {s t : State}

/-! ### What the notice operations leave as it was (R12, R88 to R91, R93) -/

/-- Nothing differs but notice fields, wind timers, notice entries and the removal flags of attempts. -/
structure State.NoticeFrame (s t : State) : Prop where
  fixed   : t.fixed = s.fixed
  slots   : t.slots = s.slots
  account : t.account = s.account
  capture : t.capture = s.capture
  causes  : t.causes = s.causes
  dom     : ∀ d, t.dom d = { s.dom d with notice := (t.dom d).notice, windTimer := (t.dom d).windTimer }
  port    : ∀ p, t.port p = { s.port p with fwd := (t.port p).fwd, attempt := (t.port p).attempt }
  frames  : ∀ p, (t.port p).frameEntries = (s.port p).frameEntries
  attempt : ∀ p, (t.port p).attempt.map (fun a => (a.sending, a.detached)) =
    (s.port p).attempt.map (fun a => (a.sending, a.detached))

theorem State.NoticeFrame.refl (s : State) : s.NoticeFrame s :=
  ⟨rfl, rfl, rfl, rfl, rfl, fun _ => rfl, fun _ => rfl, fun _ => rfl, fun _ => rfl⟩

theorem State.NoticeFrame.trans {u : State} (h : s.NoticeFrame t) (k : t.NoticeFrame u) : s.NoticeFrame u where
  fixed := k.fixed.trans h.fixed
  slots := k.slots.trans h.slots
  account := k.account.trans h.account
  capture := k.capture.trans h.capture
  causes := k.causes.trans h.causes
  dom := fun d => by rw [k.dom d, h.dom d]
  port := fun p => by rw [k.port p, h.port p]
  frames := fun p => (k.frames p).trans (h.frames p)
  attempt := fun p => (k.attempt p).trans (h.attempt p)

theorem State.noticeFrame_updDom (s : State) (d : Domain) {f : DomainRec → DomainRec}
    (hf : f (s.dom d) = { s.dom d with notice := (f (s.dom d)).notice, windTimer := (f (s.dom d)).windTimer }) :
    s.NoticeFrame (s.updDom d f) :=
  { State.NoticeFrame.refl s with
    dom := fun e => by
      rw [State.dom_updDom]
      split
      · next he => exact he ▸ hf
      · rfl }

theorem State.noticeFrame_startWind (s : State) (d : Domain) : s.NoticeFrame (s.updDom d DomainRec.startWind) :=
  s.noticeFrame_updDom d (by unfold DomainRec.startWind; split <;> rfl)

theorem State.noticeFrame_startWind_notice (s : State) (d : Domain) (n : NoticeField) :
    s.NoticeFrame (s.updDom d (fun r => { r.startWind with notice := n })) :=
  s.noticeFrame_updDom d (by unfold DomainRec.startWind; split <;> rfl)

theorem State.noticeFrame_notice (s : State) (d : Domain) (n : NoticeField) :
    s.NoticeFrame (s.updDom d (fun r => { r with notice := n })) := s.noticeFrame_updDom d rfl

/-- A change of a forward queue that keeps its frame entries. -/
theorem State.noticeFrame_fwd (s : State) (p : Port) {f : PortUnit → List FwdEntry}
    (hf : (f (s.port p)).countP FwdEntry.isFrame = (s.port p).frameEntries) :
    s.NoticeFrame (s.updPort p (fun u => { u with fwd := f u })) :=
  { State.NoticeFrame.refl s with
    port := fun q => by rw [State.port_updPort]; split <;> rfl
    frames := fun q => by
      rw [State.port_updPort]
      split
      · next hq => exact hq ▸ hf
      · rfl
    attempt := fun q => by rw [State.port_updPort]; split <;> rfl }

/-- A removal asked for. -/
theorem State.noticeFrame_removal (s : State) (p : Port) :
    s.NoticeFrame (s.updPort p (fun u => { u with attempt := u.attempt.map (fun a => { a with removal := true }) })) :=
  { State.NoticeFrame.refl s with
    port := fun q => by rw [State.port_updPort]; split <;> rfl
    frames := fun q => by rw [State.port_updPort]; split <;> rfl
    attempt := fun q => by
      rw [State.port_updPort]
      split
      · simp [Option.map_map, Function.comp_def]
      · rfl }

theorem FwdEntry.not_isNoticeOf_of_isFrame {e : FwdEntry} (h : e.isFrame = true) (d : Domain) : e.isNoticeOf d = false := by
  cases e with
  | frame => rfl
  | notice => cases h

theorem countP_isFrame_filter (l : List FwdEntry) (d : Domain) :
    (l.filter (fun e => !e.isNoticeOf d)).countP FwdEntry.isFrame = l.countP FwdEntry.isFrame := by
  rw [List.countP_filter]
  refine List.countP_congr (fun e _ => ?_)
  by_cases he : e.isFrame = true <;> simp [he, FwdEntry.not_isNoticeOf_of_isFrame]

/-- The removal of a domain's notice keeps the frame entries. -/
theorem PortUnit.countP_withoutNotice (u : PortUnit) (d : Domain) :
    (u.withoutNotice d).countP FwdEntry.isFrame = u.frameEntries := by
  unfold PortUnit.withoutNotice
  split
  · rw [List.countP_append, countP_isFrame_filter, ← List.countP_append, List.take_append_drop]; rfl
  · exact countP_isFrame_filter _ d

theorem State.noticeFrame_offerNotice (s : State) (p : Port) (d : Domain) (i : Ident) (k : NoticeKind) :
    s.NoticeFrame (s.updPort p (fun u => u.offerNotice d i k)) :=
  s.noticeFrame_fwd p (f := fun u => u.withoutNotice d ++ [FwdEntry.notice d i k])
    (by rw [List.countP_append, PortUnit.countP_withoutNotice]; rfl)

theorem State.noticeFrame_offerSleep (s : State) (d : Domain) : s.NoticeFrame (s.offerSleep d) := by
  unfold State.offerSleep
  split
  · exact (s.noticeFrame_offerNotice ..).trans (State.noticeFrame_notice _ d _)
  · exact s.noticeFrame_startWind_notice d _

theorem State.noticeFrame_offerCancel (s : State) (d : Domain) : s.NoticeFrame (s.offerCancel d) := by
  unfold State.offerCancel
  split
  · exact (s.noticeFrame_offerNotice ..).trans (State.noticeFrame_notice _ d _)
  · exact s.noticeFrame_notice d _

theorem State.noticeFrame_settleNotice (s : State) (d : Domain) (k : NoticeKind) (b : Bool) :
    s.NoticeFrame (s.settleNotice d k b) := by
  unfold State.settleNotice
  split
  · exact s.noticeFrame_startWind_notice d _
  · exact s.noticeFrame_offerSleep d
  · exact s.noticeFrame_offerCancel d
  · exact s.noticeFrame_offerCancel d
  · exact s.noticeFrame_notice d _

theorem State.noticeFrame_withdrawNotice (s : State) (d : Domain) : s.NoticeFrame (s.withdrawNotice d) := by
  unfold State.withdrawNotice
  dsimp only
  split
  · exact .refl s
  · split
    · exact s.noticeFrame_notice d _
    · split
      · exact (s.noticeFrame_removal _).trans (State.noticeFrame_notice _ d _)
      · exact (s.noticeFrame_fwd _ (PortUnit.countP_withoutNotice _ d)).trans (State.noticeFrame_settleNotice _ d _ _)

theorem State.noticeFrame_noticeAtWinding (s : State) (d : Domain) : s.NoticeFrame (s.noticeAtWinding d) := by
  unfold State.noticeAtWinding
  split
  · exact s.noticeFrame_withdrawNotice d
  · exact .refl s
  · exact .refl s
  · exact s.noticeFrame_offerSleep d
  · exact s.noticeFrame_startWind d
  · exact s.noticeFrame_startWind d
  · exact s.noticeFrame_startWind d
  · exact s.noticeFrame_offerSleep d

theorem State.noticeFrame_noticeAtReturn (s : State) (d : Domain) : s.NoticeFrame (s.noticeAtReturn d) := by
  unfold State.noticeAtReturn
  split
  · exact s.noticeFrame_withdrawNotice d
  · exact s.noticeFrame_offerCancel d
  · exact .refl s

theorem State.noticeFrame_noticeSent (s : State) (d : Domain) (k : NoticeKind) : s.NoticeFrame (s.noticeSent d k) := by
  unfold State.noticeSent
  split
  · refine s.noticeFrame_updDom d ?_
    split
    · unfold DomainRec.startWind; split <;> rfl
    · rfl
  · exact s.noticeFrame_notice d _

/-! ### Shifts -/

/-- The shifts. -/
inductive Shift : State → State → Prop where
  | quiet {s t : State} (mode : t.mode = s.mode) (port : ∀ p, (s.port p).Quiet (t.port p))
      (dom : ∀ d, (s.dom d).Quiet (t.dom d)) (blocks : s.BlocksBounded → t.BlocksBounded)
      (lists : s.ContributionsFit → t.ContributionsFit) : Shift s t
  | enter (s : State) (d : Domain) (st : DomainState) : Shift s (s.enterState d st)
  | notice {s t : State} (h : s.NoticeFrame t) : Shift s t
  | mode (s : State) (m : Mode) :
      Shift s ({ s with management := { s.management with mode := m } } : State).rederiveAll
  | params (s : State) (d : Domain) (q : DomainParams)
      (h : q.port = (s.dom d).params.port ∨ (s.dom d).state = .asleep ∧ (d = Domain.D0 ↔ q.port = Port.B)) :
      Shift s (s.updDom d (fun r => { r with params := q }))
  | ended (s : State) (p : Port) (a : Attempt) (o : TxOutcome) (h : (s.port p).attempt = some a) :
      Shift s (s.attemptOver p a o)
  | drop (s : State) (p : Port) : Shift s (s.dropHead p)
  | reset (s : State) (m : Management) (n : Nat) (cs : List Instr) (hm : m.mode = .run) (hi : m.injection = []) :
      Shift s (State.blocksAtReset m n cs)

/-- A run of shifts. -/
def Shifts : State → State → Prop := Relation.ReflTransGen Shift

theorem Shifts.refl : Shifts s s := Relation.ReflTransGen.refl

theorem Shifts.shift {u : State} (h : Shifts s t) (k : Shift t u) : Shifts s u := Relation.ReflTransGen.tail h k

theorem Shifts.quietDom (h : Shifts s t) {d : Domain} {f : DomainRec → DomainRec} (hf : (t.dom d).Quiet (f (t.dom d))) :
    Shifts s (t.updDom d f) :=
  h.shift (.quiet rfl (fun _ => .refl _)
    (fun e => by
      rw [State.dom_updDom]
      split
      · next he => exact he ▸ hf
      · exact .refl _)
    (fun b => { b with }) id)

/-- A change of the slots and the Capture Store alone. -/
theorem Shifts.aside {u : State} (h : Shifts s t) (fixed : u.fixed = t.fixed) (ports : u.ports = t.ports)
    (domains : u.domains = t.domains) (account : u.account = t.account) (causes : u.causes = t.causes)
    (capture : t.capture.Bounded → u.capture.Bounded) : Shifts s u :=
  h.shift (.quiet (State.mode_of_fixed fixed) (fun p => by rw [State.port, State.port, ports]; exact .refl _)
    (fun d => by rw [State.dom_of_domains domains]; exact .refl _)
    (fun b => b.of_fixed fixed (by rw [account]) causes capture) (fun c => c.of_fixed fixed))

theorem Shifts.switchOff (h : Shifts s t) (d : Domain) (st : DomainState) {f : DomainRec → DomainRec}
    (hf : (t.dom d).Quiet (f (t.dom d))) : Shifts s (t.switchOff d st f) := by
  have entered := (h.quietDom (f := fun r => { f r with wakeClass := none })
    (hf.trans (DomainRec.quiet_wakeClass _ none))).shift (.enter _ d st)
  unfold State.switchOff
  dsimp only
  generalize (t.updDom d (fun r => { f r with wakeClass := none })).enterState d st = u at entered ⊢
  have left : Shifts s (u.updSlots (fun a => a.leaveQueue d)) := entered.aside rfl rfl rfl rfl rfl id
  have freed : Shifts s ((u.updSlots (fun a => a.leaveQueue d)).updSlots (fun a => { a with holders := a.holders.set d none })) :=
    left.aside rfl rfl rfl rfl rfl id
  have released : Shifts s ((u.updSlots (fun a => a.leaveQueue d)).releaseSlot d) :=
    freed.quietDom ⟨rfl, rfl, rfl, rfl, fun b => ⟨b.1, b.2, b.3⟩⟩
  exact (released.shift (.notice (State.noticeFrame_withdrawNotice _ d))).aside rfl rfl rfl rfl rfl
    (fun b => State.domainDown_bounded b d)

theorem Shifts.enterAwake (h : Shifts s t) (d : Domain) : Shifts s (t.enterAwake d) := by
  unfold State.enterAwake
  exact Shifts.shift (h.quietDom ⟨rfl, rfl, rfl, rfl, fun b => ⟨b.1, b.2, b.3⟩⟩) (.enter _ d .awake)

theorem Shifts.enterWinding (h : Shifts s t) (d : Domain) (r : SleepReason) : Shifts s (t.enterWinding d r) := by
  unfold State.enterWinding
  have entered := Shifts.shift (h.quietDom (d := d)
    (f := fun q => { q with idleTimer := .stopped, minAwakeTimer := none, sleepReason := some r })
    ⟨rfl, rfl, rfl, rfl, fun b => ⟨b.1, b.2, b.3⟩⟩) (.enter _ d .winding)
  exact entered.shift (.notice (State.noticeFrame_noticeAtWinding _ d))

theorem Shifts.returnAwake (h : Shifts s t) (d : Domain) (c : WakeClass) : Shifts s (t.returnAwake d c) := by
  unfold State.returnAwake
  have entered := Shifts.enterAwake (h.quietDom (d := d)
    (f := fun r => { r with windTimer := none, sleepReason := none, wakeClass := some c })
    ⟨rfl, rfl, rfl, rfl, fun b => ⟨b.1, b.2, b.3⟩⟩) d
  exact entered.shift (.notice (State.noticeFrame_noticeAtReturn _ d))

/-- Every move is a run of shifts. -/
theorem Move.shifts (h : Move g s t) : Shifts s t := by
  cases h with
  | quiet mode port dom blocks lists => exact Shifts.refl.shift (.quiet mode port dom blocks lists)
  | enter d st _ => exact Shifts.refl.shift (.enter s d st)
  | off d st f _ hf => exact Shifts.refl.switchOff d st hf
  | wind d r _ => exact Shifts.refl.enterWinding d r
  | back d c _ => exact Shifts.refl.returnAwake d c
  | mode m => exact Shifts.refl.shift (.mode s m)
  | params d q h => exact Shifts.refl.shift (.params s d q h)
  | ended p a o ha _ => exact Shifts.refl.shift (.ended s p a o ha)
  | removed p a o d i k rest sent ha _ _ =>
    exact ((Shifts.refl.shift (.ended s p a o ha)).shift (.drop _ p)).shift (.notice (State.noticeFrame_settleNotice _ d k sent))
  | sentFrame p i data b rest _ _ => exact Shifts.refl.shift (.drop s p)
  | sentNotice p d i k rest _ _ =>
    exact (Shifts.refl.shift (.drop s p)).shift (.notice (State.noticeFrame_noticeSent _ d k))
  | reset m n cs hm hi => exact Shifts.refl.shift (.reset s m n cs hm hi)

/-- What every shift keeps, every step keeps. -/
theorem step_keeps_of_shift {P : State → Prop} (hP : ∀ s t, Shift s t → P s → P t) (h : step s = .next t) (hs : P s) : P t := by
  refine step_keeps (fun u v hm hu => ?_) h hs
  have hk := hm.shifts
  clear hm
  induction hk with
  | refl => exact hu
  | tail _ hk ih => exact hP _ _ hk ih

end Sys2Proof.Machine
end

section
/-! Enable lines and port states (O5): what each shift does to them. -/

namespace Sys2Proof.Machine

variable {s t : State}

/-! ### Enable lines (R77) -/

theorem State.EnableFollows.of_dom (h : s.EnableFollows)
    (hd : ∀ d, (t.dom d).enable = (s.dom d).enable ∧ (t.dom d).state = (s.dom d).state) : t.EnableFollows := fun d => by
  obtain ⟨henable, hstate⟩ := hd d
  rw [henable, hstate]
  exact h d

theorem State.enableFollows_enterState (h : s.EnableFollows) (d : Domain) (st : DomainState) :
    (s.enterState d st).EnableFollows := fun e => by
  rw [State.enterState_dom]
  split
  · rfl
  · exact h e

theorem State.rederiveAll_domains (s : State) : s.rederiveAll.domains = s.domains :=
  State.foldl_keeps (fun t => t.domains) _ (fun t p => t.rederive_domains p) _ s

theorem State.windOnBlocked_dom (s : State) (p : Port) (d : Domain) : (s.dom d).Quiet ((s.windOnBlocked p).dom d) := by
  have one : ∀ (t : State) (e : Domain), (t.dom d).Quiet
      ((if t.portOf e = p ∧ (t.dom e).state = .winding then t.updDom e DomainRec.startWind else t).dom d) := fun t e => by
    split
    · rw [State.dom_updDom]
      split
      · exact DomainRec.quiet_startWind _
      · exact .refl _
    · exact .refl _
  unfold State.windOnBlocked State.eachDomain
  induction List.finRange 12 generalizing s with
  | nil => exact .refl _
  | cons e l ih => exact (one s e).trans (ih _)

theorem State.accountEnd_dom (s : State) (p : Port) (b : Bool) (o : TxOutcome) (d : Domain) :
    (s.dom d).Quiet ((s.accountEnd p b o).dom d) := by
  unfold State.accountEnd
  cases o with
  | success => dsimp only; split <;> exact DomainRec.Quiet.refl (s.dom d)
  | lostArbitration => exact .refl _
  | failure =>
    dsimp only [State.accountFailure]
    split
    · exact DomainRec.Quiet.refl (s.dom d)
    · split
      · exact State.windOnBlocked_dom (s.updPort p PortUnit.fail) p d
      · exact DomainRec.Quiet.refl (s.dom d)

theorem State.attemptOver_dom (s : State) (p : Port) (a : Attempt) (o : TxOutcome) (d : Domain) :
    (s.dom d).Quiet ((s.attemptOver p a o).dom d) := State.accountEnd_dom (s.updPort p _) p a.detached o d

theorem Shift.enableFollows (h : Shift s t) (hs : s.EnableFollows) : t.EnableFollows := by
  cases h with
  | quiet _ _ dom _ _ => exact hs.of_dom (fun d => ⟨(dom d).enable, (dom d).state⟩)
  | enter d st => exact State.enableFollows_enterState hs d st
  | notice h => exact hs.of_dom (fun d => by rw [h.dom d]; exact ⟨rfl, rfl⟩)
  | mode m => exact hs.of_dom (fun d => by rw [State.dom_of_domains (State.rederiveAll_domains _)]; exact ⟨rfl, rfl⟩)
  | params d q _ => exact hs.of_dom (fun e => by rw [State.dom_updDom]; split <;> exact ⟨rfl, rfl⟩)
  | ended p a o _ =>
    exact hs.of_dom (fun d => ⟨(s.attemptOver_dom p a o d).enable, (s.attemptOver_dom p a o d).state⟩)
  | drop p => exact hs
  | reset m n cs _ _ => intro d; simp [State.blocksAtReset, State.dom, DomainRec.atReset, DomainState.powered]

/-! ### Attachments, port states and BLOCKED (R1, R5, R8, R15, R16) -/

/-- Attachments, port states and BLOCKED together. -/
structure State.Linked (s : State) : Prop where
  attachments : s.AttachmentsFit
  follow      : s.PortsFollow
  blocks      : ∀ p, (s.port p).BlockFits

/-- Which ports are ACTIVE, said of every port alike: B while the mode is RUN, and the port of an AWAKE or WINDING domain. -/
theorem State.derivedActive_iff (h : s.AttachmentsFit) (p : Port) :
    s.derivedActive p = true ↔ (p = Port.B ∧ s.mode = .run) ∨ ∃ d, s.portOf d = p ∧ (s.dom d).state.activates = true := by
  unfold State.derivedActive
  split
  · next hp =>
    subst hp
    simp [h]
  · next hp => simp [hp]

theorem State.derivedActive_congr (hs : s.AttachmentsFit) (ht : t.AttachmentsFit) (mode : t.mode = s.mode) (p : Port)
    (hd : ∀ d, (t.portOf d = p ∧ (t.dom d).state.activates = true) ↔ (s.portOf d = p ∧ (s.dom d).state.activates = true)) :
    t.derivedActive p = s.derivedActive p := by
  rw [Bool.eq_iff_iff, State.derivedActive_iff ht, State.derivedActive_iff hs, mode]
  simp only [hd]

/-- A change that keeps the mode, the attachments, the domain states and the port states. -/
theorem State.Linked.congr (h : s.Linked) (mode : t.mode = s.mode) (attached : ∀ d, t.portOf d = s.portOf d)
    (state : ∀ d, (t.dom d).state = (s.dom d).state) (active : ∀ p, (t.port p).active = (s.port p).active)
    (blocks : ∀ p, (s.port p).BlockFits → (t.port p).BlockFits) : t.Linked := by
  have ht : t.AttachmentsFit := fun d => by rw [attached]; exact h.attachments d
  refine ⟨ht, fun p => ?_, fun p => blocks p (h.blocks p)⟩
  rw [active, h.follow p, State.derivedActive_congr h.attachments ht mode p (fun d => by rw [attached, state])]

theorem PortUnit.BlockFits.toActive {u : PortUnit} (_ : u.BlockFits) : u.toActive.BlockFits :=
  ⟨fun h => (by cases h), rfl, fun _ _ _ => rfl⟩

theorem PortUnit.BlockFits.toListen (u : PortUnit) : u.toListen.BlockFits :=
  ⟨fun h => (by cases h), rfl, fun a ha hd => by
    obtain ⟨b, -, rfl⟩ := Option.map_eq_some_iff.mp ha
    cases hd⟩

/-- What an update of one port keeps, read at any port. -/
theorem State.port_updPort_keeps {P : PortUnit → Prop} {p q : Port} {f : PortUnit → PortUnit} (h : P (s.port q))
    (hf : P (s.port p) → P (f (s.port p))) : P ((s.updPort p f).port q) := by
  rw [State.port_updPort]
  split
  · next hq => subst hq; exact hf h
  · exact h

theorem State.blockFits_abortReplay {p q : Port} (h : (s.port q).BlockFits) : ((s.abortReplay p).port q).BlockFits := by
  unfold State.abortReplay
  split <;> exact State.port_updPort_keeps h (PortUnit.quiet_replay _ _ _).blocks

theorem State.blockFits_portListen {p q : Port} (h : (s.port q).BlockFits) : ((s.portListen p).port q).BlockFits := by
  have listens : ((s.updPort p PortUnit.toListen).port q).BlockFits :=
    State.port_updPort_keeps h (fun _ => PortUnit.BlockFits.toListen _)
  unfold State.portListen
  dsimp only
  split
  · exact listens
  · split
    · exact State.port_updPort_keeps listens (PortUnit.quiet_replay _ _ true).blocks
    · exact State.blockFits_abortReplay listens

theorem State.blockFits_rederive {p q : Port} (h : (s.port q).BlockFits) : ((s.rederive p).port q).BlockFits := by
  unfold State.rederive
  split
  · exact h
  · split
    · exact State.port_updPort_keeps h PortUnit.BlockFits.toActive
    · exact State.blockFits_portListen h

theorem State.rederive_mode (s : State) (p : Port) : (s.rederive p).mode = s.mode := State.mode_of_fixed (by simp)

theorem State.rederive_derivedActive (s : State) (p q : Port) : (s.rederive p).derivedActive q = s.derivedActive q := by
  simp only [State.derivedActive, State.portOf, State.rederive_mode, State.dom_of_domains (s.rederive_domains p)]

theorem State.foldl_rederive_follows (l : List Port) (q : Port) (hs : q ∈ l ∨ (s.port q).active = s.derivedActive q) :
    ((l.foldl State.rederive s).port q).active = s.derivedActive q := by
  induction l generalizing s with
  | nil => exact hs.resolve_left List.not_mem_nil
  | cons p l ih =>
    rw [List.foldl_cons, ← s.rederive_derivedActive p q]
    refine ih ?_
    rw [State.rederive_active, State.rederive_derivedActive]
    by_cases hq : q = p
    · simp [hq]
    · simpa [hq] using hs

/-- After every port has derived its state anew, every port follows. -/
theorem State.rederiveAll_follows (s : State) : s.rederiveAll.PortsFollow := fun q => by
  have hd : s.rederiveAll.derivedActive q = s.derivedActive q :=
    State.foldl_keeps (fun t => t.derivedActive q) _ (fun t p => t.rederive_derivedActive p q) _ s
  rw [hd]
  exact State.foldl_rederive_follows _ q (.inl (List.mem_finRange q))

theorem State.blockFits_rederiveAll {q : Port} (h : (s.port q).BlockFits) : (s.rederiveAll.port q).BlockFits := by
  unfold State.rederiveAll
  induction List.finRange 7 generalizing s with
  | nil => exact h
  | cons p l ih => exact ih (State.blockFits_rederive h)

theorem State.Linked.enterState (h : s.Linked) (d : Domain) (st : DomainState) : (s.enterState d st).Linked := by
  have hdom : ∀ e, ((s.enterState d st).dom e).params = (s.dom e).params := fun e => by
    rw [State.enterState_dom]; split <;> rfl
  have ht : (s.enterState d st).AttachmentsFit := fun e => by rw [State.portOf, hdom]; exact h.attachments e
  refine ⟨ht, fun q => ?_, fun q => State.blockFits_rederive (h.blocks q)⟩
  rw [State.enterState, State.rederive_active, State.rederive_derivedActive]
  split
  · next hq => rw [hq]
  · next hq =>
    have hu : (s.updDom d (fun r => { r with state := st, enable := st.powered })).AttachmentsFit := fun e => by
      rw [State.portOf, State.dom_updDom]; split <;> exact h.attachments e
    refine (h.follow q).trans (State.derivedActive_congr h.attachments hu rfl q (fun e => ?_)).symm
    by_cases he : e = d
    · subst he
      simp [State.portOf]
      exact fun hp => absurd hp.symm hq
    · simp [State.portOf, State.dom_updDom_ne _ _ he]

theorem State.Linked.mode (h : s.Linked) (m : Mode) :
    ({ s with management := { s.management with mode := m } } : State).rederiveAll.Linked := by
  refine ⟨fun d => ?_, State.rederiveAll_follows _, fun q => State.blockFits_rederiveAll (h.blocks q)⟩
  rw [State.portOf, State.dom_of_domains (State.rederiveAll_domains _)]
  exact h.attachments d

/-- A write of the parameters moves an ASLEEP domain alone, which keeps no port ACTIVE. -/
theorem State.Linked.params (h : s.Linked) (d : Domain) (q : DomainParams)
    (hq : q.port = (s.dom d).params.port ∨ (s.dom d).state = .asleep ∧ (d = Domain.D0 ↔ q.port = Port.B)) :
    (s.updDom d (fun r => { r with params := q })).Linked := by
  rcases hq with hport | ⟨hasleep, hiff⟩
  · refine h.congr rfl (fun e => ?_) (fun e => ?_) (fun _ => rfl) (fun _ b => b)
    · rw [State.portOf, State.dom_updDom]
      split
      · next he => subst he; exact hport
      · rfl
    · rw [State.dom_updDom]; split <;> rfl
  · have ht : (s.updDom d (fun r => { r with params := q })).AttachmentsFit := fun e => by
      rw [State.portOf, State.dom_updDom]
      split
      · next he => subst he; exact hiff.symm
      · exact h.attachments e
    refine ⟨ht, fun p => (h.follow p).trans (State.derivedActive_congr h.attachments ht rfl p (fun e => ?_)).symm, h.blocks⟩
    by_cases he : e = d
    · subst he
      simp [hasleep, DomainState.activates]
    · simp [State.portOf, State.dom_updDom_ne _ _ he]

theorem PortUnit.fail_active (u : PortUnit) : u.fail.active = u.active := by
  unfold PortUnit.fail; dsimp only; split <;> rfl

/-- A failure of an ACTIVE port may make it BLOCKED, with its recovery timer running. -/
theorem PortUnit.BlockFits.fail {u : PortUnit} (h : u.BlockFits) (ha : u.active = true) : u.fail.BlockFits := by
  unfold PortUnit.fail
  dsimp only
  split
  · exact ⟨fun _ => ha, rfl, fun _ _ _ => ha⟩
  · exact ⟨h.blocked, h.recovery, h.attempt⟩

theorem State.accountEnd_active (s : State) (p q : Port) (b : Bool) (o : TxOutcome) :
    ((s.accountEnd p b o).port q).active = (s.port q).active := by
  have keeps : ∀ f : PortUnit → PortUnit, (∀ u, (f u).active = u.active) →
      ((s.updPort p f).port q).active = (s.port q).active := fun f hf => by
    rw [State.port_updPort]; split
    · exact hf _
    · rfl
  unfold State.accountEnd State.accountFailure
  split
  · split
    · rfl
    · exact keeps _ (fun _ => rfl)
  · rfl
  · split
    · exact keeps _ (fun _ => rfl)
    · dsimp only
      split
      · rw [State.port, State.windOnBlocked_ports]
        exact keeps _ PortUnit.fail_active
      · exact keeps _ PortUnit.fail_active

/-- The accounting keeps what BLOCKED says, where an attempt that is not detached ran on an ACTIVE port. -/
theorem State.accountEnd_blockFits {p q : Port} {b : Bool} (o : TxOutcome) (h : (s.port q).BlockFits)
    (ha : b = false → (s.port p).active = true) : ((s.accountEnd p b o).port q).BlockFits := by
  unfold State.accountEnd State.accountFailure
  split
  · split
    · exact h
    · exact State.port_updPort_keeps h (fun k => ⟨k.1, k.2, k.3⟩)
  · exact h
  · split
    · exact State.port_updPort_keeps h (fun k => ⟨k.1, k.2, k.3⟩)
    · next hb =>
      have failed : ((s.updPort p PortUnit.fail).port q).BlockFits :=
        State.port_updPort_keeps h (fun k => k.fail (ha (by simpa using hb)))
      dsimp only
      split
      · rw [State.port, State.windOnBlocked_ports]
        exact failed
      · exact failed

theorem State.Linked.attemptOver (h : s.Linked) {p : Port} {a : Attempt} (ha : (s.port p).attempt = some a) (o : TxOutcome) :
    (s.attemptOver p a o).Linked := by
  have attached : ∀ d, (s.attemptOver p a o).portOf d = s.portOf d := fun d => by
    rw [State.portOf, (s.attemptOver_dom p a o d).params, State.portOf]
  have hactive : ∀ q, ((s.updPort p (fun u => { u with attempt := none })).port q).active = (s.port q).active := fun q => by
    rw [State.port_updPort]; split <;> rfl
  refine h.congr (State.mode_of_fixed (by simp [State.attemptOver])) attached (fun d => (s.attemptOver_dom p a o d).state)
    (fun q => ?_) (fun q b => ?_)
  · rw [State.attemptOver, State.accountEnd_active, hactive]
  · refine State.accountEnd_blockFits o (State.port_updPort_keeps b (fun k => ⟨k.1, k.2, fun _ hx => (by cases hx)⟩)) ?_
    intro hd
    rw [hactive]
    exact (h.blocks p).attempt a ha hd

theorem State.NoticeFrame.blockFits (h : s.NoticeFrame t) {p : Port} (b : (s.port p).BlockFits) : (t.port p).BlockFits := by
  have hp := h.port p
  refine ⟨?_, ?_, fun a ha hd => ?_⟩
  · rw [hp]; exact b.blocked
  · rw [hp]; exact b.recovery
  · have hmap := h.attempt p
    rw [Option.mem_def.mp ha] at hmap
    obtain ⟨x, hx, hxa⟩ := Option.map_eq_some_iff.mp hmap.symm
    rw [hp]
    exact b.attempt x hx ((Prod.mk.inj hxa).2.trans hd)

theorem portsAtReset_get (p : Port) :
    portsAtReset.get p = if p = Port.B then { PortUnit.atReset with active := true } else PortUnit.atReset := by
  rw [portsAtReset, Tab.get_set]
  split
  · rfl
  · rw [Tab.get_replicate]

theorem State.linked_atReset {m : Management} (hm : m.mode = .run) (n : Nat) (cs : List Instr) :
    (State.blocksAtReset m n cs).Linked := by
  have hdom : ∀ d, (State.blocksAtReset m n cs).dom d = DomainRec.atReset d := fun d => Tab.get_ofFn _ _
  have hport : ∀ p, (State.blocksAtReset m n cs).port p = if p = Port.B then { PortUnit.atReset with active := true }
      else PortUnit.atReset := portsAtReset_get
  have ha : (State.blocksAtReset m n cs).AttachmentsFit := fun d => by
    rw [State.portOf, hdom]
    by_cases hd : d = Domain.D0
    · simp [DomainRec.atReset, DomainParams.atReset, hd]
    · simp only [DomainRec.atReset, DomainParams.atReset, hd, if_false, iff_false]
      decide
  refine ⟨ha, fun p => ?_, fun p => ?_⟩
  · rw [hport, Bool.eq_iff_iff, State.derivedActive_iff ha]
    by_cases hp : p = Port.B
    · simp [hp, State.mode, State.blocksAtReset, hm]
    · simp [hp, PortUnit.atReset, hdom, DomainRec.atReset, DomainState.activates]
  · rw [hport]
    split
    · exact ⟨fun _ => rfl, rfl, fun _ _ _ => rfl⟩
    · exact ⟨fun hb => (by cases hb), rfl, fun _ hx => (by cases hx)⟩

theorem Shift.linked (h : Shift s t) (hs : s.Linked) : t.Linked := by
  cases h with
  | quiet mode port dom _ _ =>
    exact hs.congr mode (fun d => by rw [State.portOf, (dom d).params, State.portOf]) (fun d => (dom d).state)
      (fun p => (port p).active) (fun p => (port p).blocks)
  | enter d st => exact hs.enterState d st
  | notice h =>
    exact hs.congr (State.mode_of_fixed h.fixed) (fun d => by rw [State.portOf, h.dom d, State.portOf])
      (fun d => by rw [h.dom d]) (fun p => by rw [h.port p]) (fun p => h.blockFits)
  | mode m => exact hs.mode m
  | params d q hq => exact hs.params d q hq
  | ended p a o ha => exact hs.attemptOver ha o
  | drop p =>
    have hport : ∀ q, (s.dropHead p).port q = { s.port q with fwd := ((s.dropHead p).port q).fwd } := fun q => by
      rw [State.dropHead, State.port_updPort]; split <;> rfl
    exact hs.congr rfl (fun _ => rfl) (fun _ => rfl) (fun q => by rw [hport q])
      (fun q b => by rw [hport q]; exact ⟨b.1, b.2, b.3⟩)
  | reset m n cs hm _ => exact State.linked_atReset hm n cs

end Sys2Proof.Machine

open Sys2Proof Sys2Proof.Machine

/-- Settles O5: each property is kept by every shift, and a step is a run of shifts. -/
theorem enableLinesAndPortsFollowTheDomains : Obligations.EnableLinesAndPortsFollowTheDomains := by
  refine ⟨fun s t hs h => step_keeps_of_shift (P := State.EnableFollows) (fun _ _ => Shift.enableFollows) h hs,
    fun s t ha hp hb h => ?_⟩
  have linked : t.Linked :=
    step_keeps_of_shift (fun _ _ => Shift.linked) h ⟨ha, hp, fun p => (State.blockingFits_iff s).mp hb p⟩
  exact ⟨linked.attachments, linked.follow, (State.blockingFits_iff t).mpr linked.blocks⟩

end

section
/-! Queues and counters (the first part of O6): every shift keeps the bounds. -/

namespace Sys2Proof.Machine

variable {s t : State}

/-- Every queue within its capacity and every counter within its range, unit by unit. -/
structure State.Bounded (s : State) : Prop where
  ports   : ∀ p, (s.port p).Bounded
  domains : ∀ d, (s.dom d).Bounded
  blocks  : s.BlocksBounded

/-! ### Ports (R7, R8, R14, R15) -/

theorem PortUnit.Bounded.toActive {u : PortUnit} (h : u.Bounded) : u.toActive.Bounded :=
  { h with failures := Nat.zero_le _ }

theorem PortUnit.Bounded.toListen {u : PortUnit} (h : u.Bounded) : u.toListen.Bounded :=
  { h with failures := Nat.zero_le _ }

theorem PortUnit.Bounded.countFailure {u : PortUnit} (h : u.Bounded) : u.countFailure.Bounded :=
  { h with transmitFailure := satInc_le h.transmitFailure }

theorem PortUnit.Bounded.fail {u : PortUnit} (h : u.Bounded) : u.fail.Bounded := by
  have failed : ({ u.countFailure with failures := satInc Config.failureLimit u.failures } : PortUnit).Bounded :=
    { h.countFailure with failures := satInc_le h.failures }
  unfold PortUnit.fail
  dsimp only
  split
  · exact { failed with }
  · exact failed

theorem PortUnit.Bounded.drop {u : PortUnit} (h : u.Bounded) : ({ u with fwd := u.fwd.drop 1 } : PortUnit).Bounded :=
  { h with frames := ((List.drop_sublist 1 u.fwd).countP_le).trans h.frames }

theorem State.bounded_abortReplay {p q : Port} (h : (s.port q).Bounded) : ((s.abortReplay p).port q).Bounded := by
  unfold State.abortReplay
  split <;> exact State.port_updPort_keeps h (PortUnit.quiet_replay _ _ _).bounded

theorem State.bounded_portListen {p q : Port} (h : (s.port q).Bounded) : ((s.portListen p).port q).Bounded := by
  have listens : ((s.updPort p PortUnit.toListen).port q).Bounded := State.port_updPort_keeps h PortUnit.Bounded.toListen
  unfold State.portListen
  dsimp only
  split
  · exact listens
  · split
    · exact State.port_updPort_keeps listens (PortUnit.quiet_replay _ _ true).bounded
    · exact State.bounded_abortReplay listens

theorem State.bounded_rederive {p q : Port} (h : (s.port q).Bounded) : ((s.rederive p).port q).Bounded := by
  unfold State.rederive
  split
  · exact h
  · split
    · exact State.port_updPort_keeps h PortUnit.Bounded.toActive
    · exact State.bounded_portListen h

theorem State.bounded_accountEnd {p q : Port} (b : Bool) (o : TxOutcome) (h : (s.port q).Bounded) :
    ((s.accountEnd p b o).port q).Bounded := by
  unfold State.accountEnd
  cases o with
  | success =>
    dsimp only
    split
    · exact h
    · exact State.port_updPort_keeps h (fun k => { k with failures := Nat.zero_le _ })
  | lostArbitration => exact h
  | failure =>
    dsimp only [State.accountFailure]
    split
    · exact State.port_updPort_keeps h PortUnit.Bounded.countFailure
    · have failed : ((s.updPort p PortUnit.fail).port q).Bounded := State.port_updPort_keeps h PortUnit.Bounded.fail
      split
      · rw [State.port, State.windOnBlocked_ports]
        exact failed
      · exact failed

theorem State.NoticeFrame.portBounded (h : s.NoticeFrame t) {p : Port} (b : (s.port p).Bounded) : (t.port p).Bounded := by
  have frames := h.frames p
  rw [h.port p] at frames ⊢
  exact { b with frames := frames.trans_le b.frames }

/-! ### The whole state -/

theorem State.Bounded.rederive (h : s.Bounded) (p : Port) : (s.rederive p).Bounded where
  ports := fun q => State.bounded_rederive (h.ports q)
  domains := fun d => by rw [State.dom_of_domains (s.rederive_domains p)]; exact h.domains d
  blocks := h.blocks.of_fixed (by simp) (by simp) (by simp) (fun c => State.rederive_bounded c p)

theorem State.Bounded.rederiveAll (h : s.Bounded) : s.rederiveAll.Bounded := by
  unfold State.rederiveAll
  induction List.finRange 7 generalizing s with
  | nil => exact h
  | cons p l ih => exact ih (h.rederive p)

theorem DomainRec.bounded_atReset (d : Domain) : (DomainRec.atReset d).Bounded :=
  ⟨Nat.zero_le _, Nat.zero_le _, Nat.zero_le _⟩

theorem PortUnit.bounded_atReset (b : Bool) : ({ PortUnit.atReset with active := b } : PortUnit).Bounded := by
  constructor <;> exact Nat.zero_le _

theorem State.bounded_atReset {m : Management} (hi : m.injection = []) (n : Nat) (cs : List Instr) :
    (State.blocksAtReset m n cs).Bounded where
  ports := fun p => by
    rw [State.port, State.blocksAtReset, portsAtReset_get]
    split
    · exact PortUnit.bounded_atReset true
    · exact PortUnit.bounded_atReset false
  domains := fun d => by rw [State.dom, State.blocksAtReset, Tab.get_ofFn]; exact DomainRec.bounded_atReset d
  blocks :=
    { line := Nat.zero_le _
      timer := Nat.zero_le _
      injection := by simp [State.blocksAtReset, hi]
      causes := Nat.zero_le _
      hits := fun i => by simp [State.blocksAtReset, Engine.atReset]
      lost := fun i => by simp [State.blocksAtReset, TimerUnit.atReset, TimerRec.atReset]
      spent := Nat.zero_le _
      overflow := Nat.zero_le _
      capture := ⟨Nat.zero_le _, fun b hb => by rw [List.eq_of_mem_replicate hb]; exact Nat.zero_le _⟩ }

theorem Shift.bounded (h : Shift s t) (hs : s.Bounded) : t.Bounded := by
  cases h with
  | quiet _ port dom blocks _ =>
    exact ⟨fun p => (port p).bounded (hs.ports p), fun d => (dom d).bounded (hs.domains d), blocks hs.blocks⟩
  | enter d st =>
    refine ⟨fun p => State.bounded_rederive (hs.ports p), fun e => ?_,
      State.BlocksBounded.of_fixed (s := s) (by simp) (by simp) (by simp)
        (fun c => State.rederive_bounded (s := s.updDom d _) c _) hs.blocks⟩
    rw [State.enterState_dom]
    split
    · exact { hs.domains e with }
    · exact hs.domains e
  | notice h =>
    exact ⟨fun p => h.portBounded (hs.ports p), fun d => by rw [h.dom d]; exact { hs.domains d with },
      hs.blocks.of_fixed h.fixed (by rw [h.account]) h.causes (fun c => by rw [h.capture]; exact c)⟩
  | mode m =>
    have written : ({ s with management := { s.management with mode := m } } : State).Bounded :=
      ⟨hs.ports, hs.domains, { hs.blocks with }⟩
    exact written.rederiveAll
  | params d q _ =>
    refine ⟨hs.ports, fun e => ?_, { hs.blocks with }⟩
    rw [State.dom_updDom]
    split
    · exact { hs.domains e with }
    · exact hs.domains e
  | ended p a o _ =>
    refine ⟨fun q => State.bounded_accountEnd _ o ?_, fun d => (s.attemptOver_dom p a o d).bounded (hs.domains d),
      hs.blocks.of_fixed (by simp [State.attemptOver]) (by simp [State.attemptOver]) (by simp [State.attemptOver])
        (fun c => by simpa [State.attemptOver] using c)⟩
    exact State.port_updPort_keeps (hs.ports q) (fun b => { b with })
  | drop p =>
    exact ⟨fun q => State.port_updPort_keeps (hs.ports q) PortUnit.Bounded.drop, hs.domains, { hs.blocks with }⟩
  | reset m n cs _ hi => exact State.bounded_atReset hi n cs

/-- Every step keeps the queues within their capacities and the counters within their ranges. -/
theorem step_bounded (hq : s.QueuesFit) (hc : s.CountersFit) (h : step s = .next t) : t.QueuesFit ∧ t.CountersFit := by
  obtain ⟨ports, domains, blocks⟩ := (State.bounded_iff s).mp ⟨hq, hc⟩
  have bounded : t.Bounded := step_keeps_of_shift (fun _ _ => Shift.bounded) h ⟨ports, domains, blocks⟩
  exact (State.bounded_iff t).mpr ⟨bounded.ports, bounded.domains, bounded.blocks⟩

end Sys2Proof.Machine
end

section
/-! Notice entries (the second part of O6): the invariant of the notices, domain by domain, and what each operation on notices
does to it. -/

namespace Sys2Proof.Machine

variable {s t : State} {u v : PortUnit}

/-! ### Notice entries of a forward queue -/

/-- The kind of an entry that is a notice of the domain. -/
def FwdEntry.kindFor (e : FwdEntry) (d : Domain) : Option NoticeKind :=
  match e with
  | .frame _ _ _ => none
  | .notice d' _ k => if d' = d then some k else none

theorem PortUnit.noticeOf_eq (u : PortUnit) (d : Domain) : u.noticeOf d = u.fwd.findSome? (fun e => e.kindFor d) := by
  refine congrArg (fun f => u.fwd.findSome? f) (funext fun e => ?_)
  cases e <;> rfl

theorem PortUnit.noticeOf_of_fwd (h : v.fwd = u.fwd) (d : Domain) : v.noticeOf d = u.noticeOf d := by
  rw [PortUnit.noticeOf_eq, h, PortUnit.noticeOf_eq]

theorem FwdEntry.kindFor_isSome (e : FwdEntry) (d : Domain) : (e.kindFor d).isSome = true ↔ e.noticeDomain = some d := by
  cases e with
  | frame => simp [FwdEntry.kindFor, FwdEntry.noticeDomain]
  | notice d' i k => simp [FwdEntry.kindFor, FwdEntry.noticeDomain]

theorem FwdEntry.kindFor_of_isFrame {e : FwdEntry} (h : e.isFrame = true) (d : Domain) : e.kindFor d = none := by
  cases e with
  | frame => rfl
  | notice => cases h

theorem FwdEntry.noticeDomain_of_isFrame {e : FwdEntry} (h : e.isFrame = true) : e.noticeDomain = none := by
  cases e with
  | frame => rfl
  | notice => cases h

theorem FwdEntry.kindFor_of_not_isNoticeOf {e : FwdEntry} {d : Domain} (h : e.isNoticeOf d = false) : e.kindFor d = none := by
  cases e with
  | frame => rfl
  | notice d' i k => simpa [FwdEntry.isNoticeOf, FwdEntry.kindFor] using h

theorem FwdEntry.kindFor_of_isNoticeOf {e : FwdEntry} {d c : Domain} (h : e.isNoticeOf d = true) (hc : c ≠ d) :
    e.kindFor c = none := by
  cases e with
  | frame => rfl
  | notice d' i k => simp_all [FwdEntry.isNoticeOf, FwdEntry.kindFor, Ne.symm hc]

/-- A queue holds a notice of the domain exactly when one of its entries names the domain. -/
theorem PortUnit.noticeOf_isSome (u : PortUnit) (d : Domain) :
    (u.noticeOf d).isSome = true ↔ d ∈ u.fwd.filterMap FwdEntry.noticeDomain := by
  rw [PortUnit.noticeOf_eq, List.findSome?_isSome_iff, List.mem_filterMap]
  simp only [FwdEntry.kindFor_isSome]

theorem PortUnit.noticeOf_eq_none (u : PortUnit) (d : Domain) :
    u.noticeOf d = none ↔ d ∉ u.fwd.filterMap FwdEntry.noticeDomain := by
  rw [← PortUnit.noticeOf_isSome, Option.not_isSome_iff_eq_none]

/-! ### The invariant of the notices -/

/-- The notice field while an entry of the kind stands in the queue and is not withdrawn (R88, R91, R93). -/
def queuedAs (k : NoticeKind) : NoticeField :=
  match k with
  | .sleep _ => .sleepQueued
  | .cancel => .cancelQueued

theorem queuedAs_fits (k : NoticeKind) : (queuedAs k).fits k = true := by cases k <;> rfl

theorem withdrawing_fits (k : NoticeKind) : (withdrawing k).fits k = true := by cases k <;> rfl

@[simp] theorem queuedAs_isWithdrawing (k : NoticeKind) : (queuedAs k).isWithdrawing = false := by cases k <;> rfl

@[simp] theorem withdrawing_isWithdrawing (k : NoticeKind) : (withdrawing k).isWithdrawing = true := by cases k <;> rfl

theorem NoticeField.eq_of_fits {n : NoticeField} {k : NoticeKind} (h : n.fits k = true) :
    n = if n.isWithdrawing then withdrawing k else queuedAs k := by
  cases k <;> cases n <;> simp_all [NoticeField.fits, NoticeField.isWithdrawing, withdrawing, queuedAs]

/-- The port sends the notice of the domain, and the attempt has been asked to remove it (R12). -/
def PortUnit.Withdraws (u : PortUnit) (d : Domain) : Prop :=
  ∃ a, u.attempt = some a ∧ a.sending = .queueHead ∧ a.removal = true ∧ ∃ i k rest, u.fwd = .notice d i k :: rest

/-- Where the notice entry of a domain stands, by the domain's notice field (R12, R88, R91). -/
inductive State.EntryFits (s : State) (d : Domain) : Prop where
  /-- No entry, and none called for. -/
  | absent (none : ∀ p, (s.port p).noticeOf d = none) (field : (s.dom d).notice = .none ∨ (s.dom d).notice = .sleepSent)
  /-- One entry, in the queue of the domain's port. -/
  | standing (k : NoticeKind) (some : (s.port (s.portOf d)).noticeOf d = some k)
      (only : ∀ q, q ≠ s.portOf d → (s.port q).noticeOf d = none) (field : (s.dom d).notice = queuedAs k)
  /-- One entry, in transmission, whose removal has been asked for. -/
  | leaving (p : Port) (k : NoticeKind) (some : (s.port p).noticeOf d = some k)
      (only : ∀ q, q ≠ p → (s.port q).noticeOf d = none) (field : (s.dom d).notice = withdrawing k)
      (sent : (s.port p).Withdraws d)

/-- The invariant of the notices but for the states in which a field may stand. -/
structure State.Noticed (s : State) : Prop where
  nodup   : ∀ p, ((s.port p).fwd.filterMap FwdEntry.noticeDomain).Nodup
  entries : ∀ d, s.EntryFits d
  removal : ∀ p a, (s.port p).attempt = some a → a.removal = true →
    ∃ d, (s.port p).Withdraws d ∧ (s.dom d).notice.isWithdrawing = true

/-- Every notice field fits its domain's state. -/
def State.FieldsFit (s : State) : Prop := ∀ d, (s.dom d).notice.fitsState (s.dom d).state = true

theorem PortUnit.withdraws_iff (u : PortUnit) (d : Domain) :
    u.Withdraws d ↔ u.attempt.isSome = true ∧ u.sendingNoticeOf d = true ∧ ∀ a ∈ u.attempt, a.removal = true := by
  unfold PortUnit.Withdraws PortUnit.sendingNoticeOf PortUnit.sendingHead
  constructor
  · rintro ⟨a, ha, hs, hr, i, k, rest, hf⟩
    simp [ha, hs, hf, hr, FwdEntry.isNoticeOf]
  · rintro ⟨hsome, hsend, hr⟩
    obtain ⟨a, ha⟩ := Option.isSome_iff_exists.mp hsome
    rw [ha] at hsend hr
    obtain ⟨hq, hh⟩ := Bool.and_eq_true_iff.mp hsend
    refine ⟨a, ha, by simpa using hq, hr a rfl, ?_⟩
    cases hl : u.fwd with
    | nil => rw [hl] at hh; cases hh
    | cons e rest =>
      rw [hl] at hh
      cases e with
      | frame => cases hh
      | notice d' i k =>
        have hd : d' = d := by simpa [FwdEntry.isNoticeOf] using hh
        exact ⟨i, k, rest, by rw [hd]⟩

theorem PortUnit.sendingNoticeOf_attempt {d : Domain} (h : u.sendingNoticeOf d = true) : u.attempt.isSome = true := by
  unfold PortUnit.sendingNoticeOf PortUnit.sendingHead at h
  cases ha : u.attempt with
  | none => rw [ha] at h; cases h
  | some a => rfl

theorem State.EntryFits.of_noticesFit (h : s.NoticesFit) (d : Domain) : s.EntryFits d := by
  obtain ⟨-, hentry, -, hfield⟩ := h
  by_cases hnone : ∀ p, (s.port p).noticeOf d = none
  · refine .absent hnone ?_
    by_contra hne
    obtain ⟨hn, hs⟩ := not_or.mp hne
    obtain ⟨p, hp⟩ := (hfield d).2 hn hs
    rw [hnone p] at hp
    cases hp
  · obtain ⟨p, hp⟩ := not_forall.mp hnone
    obtain ⟨k, hk⟩ := Option.ne_none_iff_exists'.mp hp
    obtain ⟨e, he, hed⟩ : ∃ e ∈ (s.port p).fwd, e.noticeDomain = some d := by
      have := (PortUnit.noticeOf_isSome _ d).mp (by rw [hk]; rfl)
      exact List.mem_filterMap.mp this
    obtain ⟨hfits, hplace, hsent, hother⟩ := hentry p e he d hed k hk
    have hn := NoticeField.eq_of_fits hfits
    by_cases hw : (s.dom d).notice.isWithdrawing = true
    · rw [if_pos hw] at hn
      obtain ⟨hsend, hr⟩ := hsent hw
      exact .leaving p k hk hother hn
        ((PortUnit.withdraws_iff _ d).mpr ⟨PortUnit.sendingNoticeOf_attempt hsend, hsend, hr⟩)
    · have hw : (s.dom d).notice.isWithdrawing = false := by simpa using hw
      have hp := hplace hw
      subst hp
      rw [hw] at hn
      exact .standing k hk hother hn

theorem State.noticesFit_iff : s.NoticesFit ↔ s.Noticed ∧ s.FieldsFit := by
  constructor
  · intro h
    refine ⟨⟨h.1, State.EntryFits.of_noticesFit h, fun p a ha hr => ?_⟩, fun d => (h.2.2.2 d).1⟩
    obtain ⟨hsend, e, he, d, hd, hw⟩ := h.2.2.1 p a ha hr
    cases e with
    | frame => cases hd
    | notice d' i k =>
      obtain rfl := Option.some.inj hd
      obtain ⟨rest, hrest⟩ := List.head?_eq_some_iff.mp he
      exact ⟨d', ⟨a, ha, hsend, hr, i, k, rest, hrest⟩, hw⟩
  · rintro ⟨⟨hnodup, hentries, hremoval⟩, hfields⟩
    refine ⟨hnodup, fun p e _ d _ k hk => ?_, fun p a ha hr => ?_, fun d => ⟨hfields d, fun hn hs => ?_⟩⟩
    · cases hentries d with
      | absent none _ => simp [none p] at hk
      | standing k' some only field =>
        by_cases hp : p = s.portOf d
        · subst hp
          obtain rfl := Option.some.inj (some.symm.trans hk)
          rw [field]
          exact ⟨queuedAs_fits _, fun _ => rfl, fun hw => by simp at hw, only⟩
        · simp [only p hp] at hk
      | leaving p' k' some only field sent =>
        by_cases hp : p = p'
        · subst hp
          obtain rfl := Option.some.inj (some.symm.trans hk)
          rw [field]
          obtain ⟨-, hsend, hr⟩ := (PortUnit.withdraws_iff _ d).mp sent
          exact ⟨withdrawing_fits _, fun hw => by simp at hw, fun _ => ⟨hsend, hr⟩, only⟩
        · simp [only p hp] at hk
    · obtain ⟨d, ⟨b, hb, hsend, -, i, k, rest, hf⟩, hw⟩ := hremoval p a ha hr
      obtain rfl := Option.some.inj (hb.symm.trans ha)
      exact ⟨hsend, .notice d i k, by rw [hf]; rfl, d, rfl, hw⟩
    · cases hentries d with
      | absent _ field => exact absurd field (by simp [hn, hs])
      | standing k some _ _ => exact ⟨s.portOf d, by rw [some]; rfl⟩
      | leaving p k some _ _ _ => exact ⟨p, by rw [some]; rfl⟩

/-! ### Changes of a port that carry its notices along -/

/-- The notice entries stay, a withdrawal under way goes on, and no removal is asked for. -/
structure PortUnit.Carries (u v : PortUnit) : Prop where
  domains   : v.fwd.filterMap FwdEntry.noticeDomain = u.fwd.filterMap FwdEntry.noticeDomain
  kinds     : ∀ d, v.noticeOf d = u.noticeOf d
  withdraws : ∀ d, u.Withdraws d → v.Withdraws d
  removal   : ∀ a, v.attempt = some a → a.removal = true → ∃ b, u.attempt = some b ∧ b.removal = true

theorem PortUnit.Carries.refl (u : PortUnit) : u.Carries u := ⟨rfl, fun _ => rfl, fun _ h => h, fun a ha hr => ⟨a, ha, hr⟩⟩

theorem PortUnit.Carries.trans {w : PortUnit} (h : u.Carries v) (k : v.Carries w) : u.Carries w where
  domains := k.domains.trans h.domains
  kinds := fun d => (k.kinds d).trans (h.kinds d)
  withdraws := fun d hd => k.withdraws d (h.withdraws d hd)
  removal := fun a ha hr => by
    obtain ⟨b, hb, hbr⟩ := k.removal a ha hr
    exact h.removal b hb hbr

theorem PortUnit.Carries.of_same (fwd : v.fwd = u.fwd) (attempt : v.attempt = u.attempt) : u.Carries v where
  domains := by rw [fwd]
  kinds := PortUnit.noticeOf_of_fwd fwd
  withdraws := fun d => by unfold PortUnit.Withdraws; rw [fwd, attempt]; exact id
  removal := fun a ha hr => ⟨a, attempt ▸ ha, hr⟩

/-- A queue that gains frame entries alone. -/
theorem PortUnit.noticeOf_append_frames {l : List FwdEntry} (hl : ∀ e ∈ l, e.isFrame = true) (hv : v.fwd = u.fwd ++ l)
    (d : Domain) : v.noticeOf d = u.noticeOf d := by
  have hnone : l.findSome? (fun e => e.kindFor d) = none :=
    List.findSome?_eq_none_iff.mpr (fun e he => FwdEntry.kindFor_of_isFrame (hl e he) d)
  rw [PortUnit.noticeOf_eq, hv, List.findSome?_append, hnone, Option.or_none, PortUnit.noticeOf_eq]

theorem PortUnit.Quiet.carries (h : u.Quiet v) : u.Carries v := by
  obtain ⟨l, hl, hframes⟩ := h.fwd
  have hnone : l.filterMap FwdEntry.noticeDomain = [] :=
    List.filterMap_eq_nil_iff.mpr (fun e he => FwdEntry.noticeDomain_of_isFrame (hframes e he))
  refine ⟨by rw [hl, List.filterMap_append, hnone, List.append_nil], PortUnit.noticeOf_append_frames hframes hl, ?_, ?_⟩
  · rintro d ⟨a, ha, hs, hr, i, k, rest, hf⟩
    rcases h.attempt with hsame | ⟨hnone, -⟩
    · exact ⟨a, hsame.trans ha, hs, hr, i, k, rest ++ l, by rw [hl, hf]; rfl⟩
    · rw [hnone] at ha; cases ha
  · intro a ha hr
    rcases h.attempt with hsame | ⟨-, x, hx⟩
    · exact ⟨a, hsame ▸ ha, hr⟩
    · obtain rfl := Option.some.inj (hx.symm.trans ha)
      cases hr

theorem PortUnit.carries_toListen (u : PortUnit) : u.Carries u.toListen where
  domains := rfl
  kinds := PortUnit.noticeOf_of_fwd rfl
  withdraws := by
    rintro d ⟨a, ha, hs, hr, hf⟩
    exact ⟨{ a with detached := true }, by simp [PortUnit.toListen, ha], hs, hr, hf⟩
  removal := fun a ha hr => by
    obtain ⟨b, hb, rfl⟩ := Option.map_eq_some_iff.mp ha
    exact ⟨b, hb, hr⟩

theorem State.carries_updPort (s : State) (p q : Port) {f : PortUnit → PortUnit} (hf : (s.port p).Carries (f (s.port p))) :
    (s.port q).Carries ((s.updPort p f).port q) := by
  rw [State.port_updPort]
  split
  · next hq => subst hq; exact hf
  · exact .refl _

theorem State.carries_rederive (s : State) (p q : Port) : (s.port q).Carries ((s.rederive p).port q) := by
  have listens := s.carries_updPort p q (PortUnit.carries_toListen _)
  unfold State.rederive
  split
  · exact .refl _
  · split
    · exact s.carries_updPort p q (.of_same rfl rfl)
    · unfold State.portListen
      dsimp only
      split
      · exact listens
      · split
        · exact listens.trans (State.carries_updPort _ p q (.of_same rfl rfl))
        · refine listens.trans ?_
          unfold State.abortReplay
          split <;> exact State.carries_updPort _ p q (.of_same rfl rfl)

theorem State.carries_rederiveAll (s : State) (q : Port) : (s.port q).Carries (s.rederiveAll.port q) := by
  unfold State.rederiveAll
  induction List.finRange 7 generalizing s with
  | nil => exact .refl _
  | cons p l ih => exact (s.carries_rederive p q).trans (ih _)

/-- A change that carries the notices of every port, keeps the notice fields, and moves no domain whose entry stands in the
queue of its port. -/
theorem State.Noticed.carry (h : s.Noticed) (ports : ∀ p, (s.port p).Carries (t.port p))
    (field : ∀ d, (t.dom d).notice = (s.dom d).notice)
    (attached : ∀ d, t.portOf d = s.portOf d ∨ ∀ k, (s.dom d).notice ≠ queuedAs k) : t.Noticed where
  nodup := fun p => by rw [(ports p).domains]; exact h.nodup p
  entries := fun d => by
    cases h.entries d with
    | absent none hn => exact .absent (fun p => by rw [(ports p).kinds, none]) (by rw [field]; exact hn)
    | standing k some only hn =>
      have hp : t.portOf d = s.portOf d := (attached d).resolve_right (fun hq => hq k hn)
      exact .standing k (by rw [hp, (ports _).kinds, some]) (fun q hq => by rw [(ports q).kinds, only q (hp ▸ hq)])
        (by rw [field, hn])
    | leaving p k some only hn sent =>
      exact .leaving p k (by rw [(ports p).kinds, some]) (fun q hq => by rw [(ports q).kinds, only q hq])
        (by rw [field, hn]) ((ports p).withdraws d sent)
  removal := fun p a ha hr => by
    obtain ⟨b, hb, hbr⟩ := (ports p).removal a ha hr
    obtain ⟨d, hd, hw⟩ := h.removal p b hb hbr
    exact ⟨d, (ports p).withdraws d hd, by rw [field]; exact hw⟩

/-! ### The notices of all domains but one -/

/-- The invariant for every domain but one, which has no entry: what holds between the removal of its entry and the next. -/
structure State.NoticedBut (s : State) (d : Domain) : Prop where
  nodup   : ∀ p, ((s.port p).fwd.filterMap FwdEntry.noticeDomain).Nodup
  absent  : ∀ p, (s.port p).noticeOf d = none
  entries : ∀ e, e ≠ d → s.EntryFits e
  removal : ∀ p a, (s.port p).attempt = some a → a.removal = true →
    ∃ e, (s.port p).Withdraws e ∧ (s.dom e).notice.isWithdrawing = true

theorem PortUnit.Withdraws.noticeOf {d : Domain} (h : u.Withdraws d) : (u.noticeOf d).isSome = true := by
  obtain ⟨a, -, -, -, i, k, rest, hf⟩ := h
  rw [PortUnit.noticeOf_isSome, hf]
  simp [FwdEntry.noticeDomain]

theorem State.Noticed.but (h : s.Noticed) {d : Domain} (hn : (s.dom d).notice = .none ∨ (s.dom d).notice = .sleepSent) :
    s.NoticedBut d := by
  refine ⟨h.nodup, ?_, fun e _ => h.entries e, h.removal⟩
  cases h.entries d with
  | absent none _ => exact none
  | standing k _ _ field => rw [field] at hn; cases k <;> simp [queuedAs] at hn
  | leaving p k _ _ field _ => rw [field] at hn; cases k <;> simp [withdrawing] at hn

/-- The field of a domain without an entry is settled. -/
theorem State.NoticedBut.settle {d : Domain} (h : s.NoticedBut d) (f : DomainRec → DomainRec)
    (hp : (f (s.dom d)).params = (s.dom d).params) (hn : (f (s.dom d)).notice = .none ∨ (f (s.dom d)).notice = .sleepSent) :
    (s.updDom d f).Noticed where
  nodup := h.nodup
  entries := fun e => by
    by_cases he : e = d
    · subst he
      exact .absent h.absent (by rw [State.dom_updDom_self]; exact hn)
    · have hd : (s.updDom d f).dom e = s.dom e := State.dom_updDom_ne _ _ he
      have ho : (s.updDom d f).portOf e = s.portOf e := by rw [State.portOf, hd, State.portOf]
      cases h.entries e he with
      | absent none field => exact .absent none (by rw [hd]; exact field)
      | standing k some only field => exact .standing k (by rw [ho]; exact some) (by rw [ho]; exact only) (by rw [hd]; exact field)
      | leaving p k some only field sent => exact .leaving p k some only (by rw [hd]; exact field) sent
  removal := fun p a ha hr => by
    obtain ⟨e, he, hw⟩ := h.removal p a ha hr
    refine ⟨e, he, ?_⟩
    have hne : e ≠ d := fun hed => by
      have hsome := PortUnit.Withdraws.noticeOf he
      rw [hed, h.absent] at hsome
      cases hsome
    rw [State.dom_updDom_ne _ _ hne]
    exact hw

end Sys2Proof.Machine
end

section
/-! Notice entries (the second part of O6), continued: offers, withdrawals, the ends of attempts, and the moves. -/

namespace Sys2Proof.Machine

variable {s t : State} {u v : PortUnit} {d : Domain}

/-! ### An offer -/

/-- Without an entry of the domain, the removal of its notice leaves the queue as it is. -/
theorem PortUnit.withoutNotice_eq_self (h : u.noticeOf d = none) : u.withoutNotice d = u.fwd := by
  have hnot : ∀ e ∈ u.fwd, (!e.isNoticeOf d) = true := fun e he => by
    rw [PortUnit.noticeOf_eq, List.findSome?_eq_none_iff] at h
    cases e with
    | frame => rfl
    | notice d' i k => simpa [FwdEntry.kindFor, FwdEntry.isNoticeOf] using h _ he
  unfold PortUnit.withoutNotice
  split
  · rw [List.filter_eq_self.mpr (fun e he => hnot e (List.mem_of_mem_drop he)), List.take_append_drop]
  · exact List.filter_eq_self.mpr hnot

theorem PortUnit.offerNotice_fwd (h : u.noticeOf d = none) (i : Ident) (k : NoticeKind) :
    (u.offerNotice d i k).fwd = u.fwd ++ [.notice d i k] := by
  change u.withoutNotice d ++ _ = _
  rw [PortUnit.withoutNotice_eq_self h]

/-- An offered notice stands in the queue, and the other notices with it. -/
theorem PortUnit.noticeOf_offerNotice (h : u.noticeOf d = none) (i : Ident) (k : NoticeKind) (e : Domain) :
    (u.offerNotice d i k).noticeOf e = if e = d then some k else u.noticeOf e := by
  rw [PortUnit.noticeOf_eq, PortUnit.offerNotice_fwd h, List.findSome?_append, ← PortUnit.noticeOf_eq]
  split
  · next he => simp [he, h, FwdEntry.kindFor]
  · next he => simp [FwdEntry.kindFor, Ne.symm he]

theorem PortUnit.withdraws_offerNotice (h : u.noticeOf d = none) (i : Ident) (k : NoticeKind) {e : Domain}
    (he : u.Withdraws e) : (u.offerNotice d i k).Withdraws e := by
  obtain ⟨a, ha, hs, hr, j, l, rest, hf⟩ := he
  exact ⟨a, ha, hs, hr, j, l, rest ++ [.notice d i k], by rw [PortUnit.offerNotice_fwd h, hf]; rfl⟩

/-- A notice offered for a domain without an entry. -/
theorem State.NoticedBut.offer (h : s.NoticedBut d) (i : Ident) (k : NoticeKind) :
    ((s.updPort (s.portOf d) (fun u => u.offerNotice d i k)).updDom d (fun r => { r with notice := queuedAs k })).Noticed := by
  generalize hp : s.portOf d = p
  generalize ht : (s.updPort p (fun u => u.offerNotice d i k)).updDom d (fun r => { r with notice := queuedAs k }) = t
  have hport : ∀ q, t.port q = if q = p then (s.port q).offerNotice d i k else s.port q := fun q => by
    rw [← ht]; exact s.port_updPort p q _
  have hdom : ∀ e, t.dom e = if e = d then { s.dom e with notice := queuedAs k } else s.dom e := fun e => by
    rw [← ht]; exact s.dom_updDom d e _
  have hof : ∀ e, t.portOf e = s.portOf e := fun e => by rw [State.portOf, hdom]; split <;> rfl
  have hnotice : ∀ q e, e ≠ d → (t.port q).noticeOf e = (s.port q).noticeOf e := fun q e he => by
    rw [hport]
    split
    · rw [PortUnit.noticeOf_offerNotice (h.absent q), if_neg he]
    · rfl
  have hwith : ∀ q e, (s.port q).Withdraws e → (t.port q).Withdraws e := fun q e he => by
    rw [hport]
    split
    · exact PortUnit.withdraws_offerNotice (h.absent q) i k he
    · exact he
  refine ⟨fun q => ?_, fun e => ?_, fun q a ha hr => ?_⟩
  · rw [hport]
    split
    · have hd := (PortUnit.noticeOf_eq_none _ d).mp (h.absent q)
      rw [PortUnit.offerNotice_fwd (h.absent q), List.filterMap_append]
      exact (h.nodup q).append (by simp [FwdEntry.noticeDomain]) (by simpa [FwdEntry.noticeDomain] using hd)
    · exact h.nodup q
  · by_cases he : e = d
    · subst he
      refine .standing k ?_ (fun q hq => ?_) (by rw [hdom, if_pos rfl])
      · rw [hof, hp, hport, if_pos rfl, PortUnit.noticeOf_offerNotice (h.absent p), if_pos rfl]
      · rw [hof, hp] at hq
        rw [hport, if_neg hq, h.absent]
    · have hd : t.dom e = s.dom e := by rw [hdom, if_neg he]
      cases h.entries e he with
      | absent none field => exact .absent (fun q => by rw [hnotice q e he, none]) (by rw [hd]; exact field)
      | standing l some only field =>
        exact .standing l (by rw [hof, hnotice _ e he, some]) (fun q hq => by rw [hnotice q e he, only q (hof e ▸ hq)])
          (by rw [hd, field])
      | leaving q l some only field sent =>
        exact .leaving q l (by rw [hnotice q e he, some]) (fun r hr => by rw [hnotice r e he, only r hr]) (by rw [hd, field])
          (hwith q e sent)
  · have ha' : (s.port q).attempt = some a := by
      rw [hport] at ha
      split at ha <;> exact ha
    obtain ⟨e, he, hw⟩ := h.removal q a ha' hr
    have hne : e ≠ d := fun hed => by
      have hsome := PortUnit.Withdraws.noticeOf he
      rw [hed, h.absent] at hsome
      cases hsome
    exact ⟨e, hwith q e he, by rw [hdom, if_neg hne]; exact hw⟩

/-- The invariant, and a field that fits the domain's state. -/
def State.NoticedAt (s : State) (d : Domain) : Prop :=
  s.Noticed ∧ (s.dom d).notice.fitsState (s.dom d).state = true

theorem DomainRec.startWind_params (r : DomainRec) : r.startWind.params = r.params := by
  unfold DomainRec.startWind; split <;> rfl

theorem DomainRec.startWind_state (r : DomainRec) : r.startWind.state = r.state := by
  unfold DomainRec.startWind; split <;> rfl

theorem State.NoticedBut.none (h : s.NoticedBut d) : (s.updDom d (fun r => { r with notice := .none })).NoticedAt d :=
  ⟨h.settle _ rfl (.inl rfl), by rw [State.dom_updDom_self]; rfl⟩

theorem State.NoticedBut.offerSleep (h : s.NoticedBut d) (hst : (s.dom d).state = .winding) : (s.offerSleep d).NoticedAt d := by
  unfold State.offerSleep
  split
  · next i reason _ _ =>
    exact ⟨h.offer i (.sleep reason), by rw [State.dom_updDom_self]; exact congrArg (· == DomainState.winding) hst⟩
  · exact ⟨h.settle _ (DomainRec.startWind_params _) (.inl rfl), by rw [State.dom_updDom_self]; rfl⟩

theorem State.NoticedBut.offerCancel (h : s.NoticedBut d) (hst : (s.dom d).state.activates = true) :
    (s.offerCancel d).NoticedAt d := by
  unfold State.offerCancel
  split
  · next i _ => exact ⟨h.offer i .cancel, by rw [State.dom_updDom_self]; exact hst⟩
  · exact h.none

theorem State.NoticedBut.settleNotice (h : s.NoticedBut d) (k : NoticeKind) (b : Bool) : (s.settleNotice d k b).NoticedAt d := by
  unfold State.settleNotice
  split
  · next hst =>
    exact ⟨h.settle _ (DomainRec.startWind_params _) (.inr rfl), by
      rw [State.dom_updDom_self]
      exact congrArg (· == DomainState.winding) ((DomainRec.startWind_state _).trans hst)⟩
  · next hst _ => exact h.offerSleep hst
  · next hst => exact h.offerCancel (by rw [hst]; rfl)
  · next hst => exact h.offerCancel (by rw [hst]; rfl)
  · exact h.none

/-! ### The removal of an entry -/

/-- A change of a port that takes away the entry of one domain and carries the others along. -/
structure PortUnit.Removes (u v : PortUnit) (d : Domain) : Prop where
  domains   : (v.fwd.filterMap FwdEntry.noticeDomain).Sublist (u.fwd.filterMap FwdEntry.noticeDomain)
  absent    : v.noticeOf d = none
  kinds     : ∀ e, e ≠ d → v.noticeOf e = u.noticeOf e
  withdraws : ∀ e, e ≠ d → u.Withdraws e → v.Withdraws e
  removal   : ∀ a, v.attempt = some a → a.removal = true → ∃ b, u.attempt = some b ∧ b.removal = true ∧ ¬ u.Withdraws d

/-- The removal of a domain's entry at one port, while the other ports carry their notices along and hold none of it. -/
theorem State.Noticed.remove (h : s.Noticed) {p : Port} (hp : (s.port p).Removes (t.port p) d)
    (others : ∀ q, q ≠ p → (s.port q).Carries (t.port q)) (only : ∀ q, q ≠ p → (s.port q).noticeOf d = none)
    (field : ∀ e, (t.dom e).notice = (s.dom e).notice) (attached : ∀ e, t.portOf e = s.portOf e) : t.NoticedBut d := by
  have kinds : ∀ q e, e ≠ d → (t.port q).noticeOf e = (s.port q).noticeOf e := fun q e he => by
    by_cases hq : q = p
    · subst hq; exact hp.kinds e he
    · exact (others q hq).kinds e
  have withdraws : ∀ q e, e ≠ d → (s.port q).Withdraws e → (t.port q).Withdraws e := fun q e he hw => by
    by_cases hq : q = p
    · subst hq; exact hp.withdraws e he hw
    · exact (others q hq).withdraws e hw
  refine ⟨fun q => ?_, fun q => ?_, fun e he => ?_, fun q a ha hr => ?_⟩
  · by_cases hq : q = p
    · subst hq; exact (h.nodup q).sublist hp.domains
    · rw [(others q hq).domains]; exact h.nodup q
  · by_cases hq : q = p
    · subst hq; exact hp.absent
    · rw [(others q hq).kinds, only q hq]
  · cases h.entries e with
    | absent none fe => exact .absent (fun q => by rw [kinds q e he, none]) (by rw [field]; exact fe)
    | standing k some only' fe =>
      exact .standing k (by rw [attached, kinds _ e he, some]) (fun q hq => by rw [kinds q e he, only' q (attached e ▸ hq)])
        (by rw [field, fe])
    | leaving q k some only' fe sent =>
      exact .leaving q k (by rw [kinds q e he, some]) (fun r hr => by rw [kinds r e he, only' r hr]) (by rw [field, fe])
        (withdraws q e he sent)
  · have carried : ∀ b, (s.port q).attempt = some b → b.removal = true → ¬ (s.port q).Withdraws d →
        ∃ e, (t.port q).Withdraws e ∧ (t.dom e).notice.isWithdrawing = true := fun b hb hbr hnot => by
      obtain ⟨e, he, hw⟩ := h.removal q b hb hbr
      have hne : e ≠ d := fun hed => hnot (hed ▸ he)
      exact ⟨e, withdraws q e hne he, by rw [field]; exact hw⟩
    by_cases hq : q = p
    · subst hq
      obtain ⟨b, hb, hbr, hnot⟩ := hp.removal a ha hr
      exact carried b hb hbr hnot
    · obtain ⟨b, hb, hbr⟩ := (others q hq).removal a ha hr
      refine carried b hb hbr (fun hw => ?_)
      have hsome := PortUnit.Withdraws.noticeOf hw
      rw [only q hq] at hsome
      cases hsome

/-- The oldest entry, the notice of a domain, leaves the queue of a port whose attempt is over. -/
theorem PortUnit.removes_head {i : Ident} {k : NoticeKind} {rest : List FwdEntry} (hu : u.fwd = .notice d i k :: rest)
    (hnodup : (u.fwd.filterMap FwdEntry.noticeDomain).Nodup) (hv : v.fwd = rest) (hnone : v.attempt = none)
    (hw : ∀ e, e ≠ d → ¬ u.Withdraws e) : u.Removes v d where
  domains := by rw [hu, hv]; exact (List.sublist_cons_self _ _).filterMap _
  absent := by
    rw [hu] at hnodup
    rw [PortUnit.noticeOf_eq_none, hv]
    exact (List.nodup_cons.mp (by simpa [FwdEntry.noticeDomain] using hnodup)).1
  kinds := fun e he => by
    rw [PortUnit.noticeOf_eq, PortUnit.noticeOf_eq, hu, hv]
    simp [FwdEntry.kindFor, Ne.symm he]
  withdraws := fun e he h => absurd h (hw e he)
  removal := fun a ha => by rw [hnone] at ha; cases ha

theorem PortUnit.sendingHead_of_attempt {a : Attempt} (ha : u.attempt = some a) :
    u.sendingHead = (a.sending == .queueHead) := by
  rw [PortUnit.sendingHead, ha]

/-- What the removal of a notice that is not in transmission leaves: all but the domain's entries. -/
theorem PortUnit.withoutNotice_eq_filter (h : u.sendingNoticeOf d = false) :
    u.withoutNotice d = u.fwd.filter (fun e => !e.isNoticeOf d) := by
  unfold PortUnit.withoutNotice
  split
  · next hs =>
    cases hf : u.fwd with
    | nil => rfl
    | cons e rest =>
      have he : e.isNoticeOf d = false := by simpa [PortUnit.sendingNoticeOf, hs, hf] using h
      simp [he]
  · rfl

theorem findSome?_filter_kindFor_ne (l : List FwdEntry) {e : Domain} (he : e ≠ d) :
    (l.filter (fun x => !x.isNoticeOf d)).findSome? (fun x => x.kindFor e) = l.findSome? (fun x => x.kindFor e) := by
  induction l with
  | nil => rfl
  | cons x l ih =>
    cases hx : x.isNoticeOf d with
    | true => simp [hx, ih, FwdEntry.kindFor_of_isNoticeOf hx he]
    | false => simp [hx, ih, List.findSome?_cons]

theorem PortUnit.removes_withoutNotice (h : u.sendingNoticeOf d = false) :
    u.Removes { u with fwd := u.withoutNotice d } d := by
  have hfwd : ({ u with fwd := u.withoutNotice d } : PortUnit).fwd = u.fwd.filter (fun e => !e.isNoticeOf d) :=
    PortUnit.withoutNotice_eq_filter h
  have hnot : ¬ u.Withdraws d := fun hw => by
    rw [PortUnit.withdraws_iff, h] at hw
    exact absurd hw.2.1 (by decide)
  refine ⟨?_, ?_, fun e he => ?_, fun e he => ?_, fun a ha hr => ⟨a, ha, hr, hnot⟩⟩
  · rw [hfwd]; exact List.filter_sublist.filterMap _
  · rw [PortUnit.noticeOf_eq, hfwd, List.findSome?_eq_none_iff]
    intro e he
    exact FwdEntry.kindFor_of_not_isNoticeOf (by simpa using (List.mem_filter.mp he).2)
  · rw [PortUnit.noticeOf_eq, hfwd, findSome?_filter_kindFor_ne _ he, PortUnit.noticeOf_eq]
  · rintro ⟨a, ha, hs, hr, i, k, rest, hf⟩
    refine ⟨a, ha, hs, hr, i, k, rest.filter (fun e => !e.isNoticeOf d), ?_⟩
    rw [hfwd, hf]
    simp [FwdEntry.isNoticeOf, he]

/-! ### A withdrawal -/

theorem NoticeField.fitsState_of_isWithdrawing {n : NoticeField} (h : n.isWithdrawing = true) (st : DomainState) :
    n.fitsState st = true := by
  cases n <;> simp_all [NoticeField.isWithdrawing, NoticeField.fitsState]

/-- A notice in transmission, once its removal is asked for, is withdrawn by its attempt. -/
theorem PortUnit.withdraws_of_removal (h : u.sendingNoticeOf d = true) :
    ({ u with attempt := u.attempt.map (fun a => { a with removal := true }) } : PortUnit).Withdraws d := by
  obtain ⟨a, ha⟩ := Option.isSome_iff_exists.mp (PortUnit.sendingNoticeOf_attempt h)
  have hs : a.sending = .queueHead := by
    have := (Bool.and_eq_true_iff.mp h).1
    rw [PortUnit.sendingHead_of_attempt ha] at this
    simpa using this
  have hw : ({ u with attempt := some { a with removal := true } } : PortUnit).Withdraws d := by
    refine (PortUnit.withdraws_iff _ d).mpr ⟨rfl, ?_, fun b hb => ?_⟩
    · simpa [PortUnit.sendingNoticeOf, PortUnit.sendingHead, ha, hs] using h
    · rw [← Option.some.inj hb]
  simpa [ha] using hw

/-- The removal of the domain's notice in transmission is asked for (R12, R91). -/
theorem State.Noticed.askRemoval (h : s.Noticed) {k : NoticeKind} (hk : (s.port (s.portOf d)).noticeOf d = some k)
    (only : ∀ q, q ≠ s.portOf d → (s.port q).noticeOf d = none) (hs : (s.port (s.portOf d)).sendingNoticeOf d = true) :
    ((s.updPort (s.portOf d) (fun u => { u with attempt := u.attempt.map (fun a => { a with removal := true }) })).updDom d
      (fun r => { r with notice := withdrawing k })).Noticed := by
  generalize hp : s.portOf d = p at hk only hs
  generalize ht : (s.updPort p (fun u => { u with attempt := u.attempt.map (fun a => { a with removal := true }) })).updDom d
      (fun r => { r with notice := withdrawing k }) = t
  have hport : ∀ q, t.port q = if q = p then
      { s.port q with attempt := (s.port q).attempt.map (fun a => { a with removal := true }) } else s.port q := fun q => by
    rw [← ht]; exact s.port_updPort p q _
  have hdom : ∀ e, t.dom e = if e = d then { s.dom e with notice := withdrawing k } else s.dom e := fun e => by
    rw [← ht]; exact s.dom_updDom d e _
  have hof : ∀ e, t.portOf e = s.portOf e := fun e => by rw [State.portOf, hdom]; split <;> rfl
  have hfwd : ∀ q, (t.port q).fwd = (s.port q).fwd := fun q => by rw [hport]; split <;> rfl
  have hwith : ∀ q e, (s.port q).Withdraws e → (t.port q).Withdraws e := by
    rintro q e ⟨a, ha, hs, hr, hf⟩
    rw [hport]
    split
    · exact ⟨{ a with removal := true }, by simp [ha], hs, rfl, hf⟩
    · exact ⟨a, ha, hs, hr, hf⟩
  have sent : (t.port p).Withdraws d := by rw [hport, if_pos rfl]; exact PortUnit.withdraws_of_removal hs
  refine ⟨fun q => by rw [hfwd]; exact h.nodup q, fun e => ?_, fun q a ha hr => ?_⟩
  · by_cases he : e = d
    · subst he
      exact .leaving p k (by rw [PortUnit.noticeOf_of_fwd (hfwd p), hk])
        (fun q hq => by rw [PortUnit.noticeOf_of_fwd (hfwd q), only q hq]) (by rw [hdom, if_pos rfl]) sent
    · have hd : t.dom e = s.dom e := by rw [hdom, if_neg he]
      cases h.entries e with
      | absent none field => exact .absent (fun q => by rw [PortUnit.noticeOf_of_fwd (hfwd q), none]) (by rw [hd]; exact field)
      | standing l some only' field =>
        exact .standing l (by rw [hof, PortUnit.noticeOf_of_fwd (hfwd _), some])
          (fun q hq => by rw [PortUnit.noticeOf_of_fwd (hfwd q), only' q (hof e ▸ hq)]) (by rw [hd, field])
      | leaving q l some only' field hq =>
        exact .leaving q l (by rw [PortUnit.noticeOf_of_fwd (hfwd q), some])
          (fun r hr => by rw [PortUnit.noticeOf_of_fwd (hfwd r), only' r hr]) (by rw [hd, field]) (hwith q e hq)
  · by_cases hq : q = p
    · subst hq
      exact ⟨d, sent, by rw [hdom, if_pos rfl]; exact withdrawing_isWithdrawing k⟩
    · rw [hport, if_neg hq] at ha
      obtain ⟨e, he, hw⟩ := h.removal q a ha hr
      refine ⟨e, hwith q e he, ?_⟩
      rw [hdom]
      split
      · exact withdrawing_isWithdrawing k
      · exact hw

/-- The withdrawal of a notice leaves the notices fit, whatever state the domain has entered (R12, R91). -/
theorem State.Noticed.withdrawNotice (h : s.Noticed) (d : Domain) : (s.withdrawNotice d).NoticedAt d := by
  unfold State.withdrawNotice
  dsimp only
  split
  · next hw =>
    exact ⟨h, NoticeField.fitsState_of_isWithdrawing hw _⟩
  · next hw =>
    have hentry := h.entries d
    split
    · next hnone =>
      refine State.NoticedBut.none ⟨h.nodup, ?_, fun e _ => h.entries e, h.removal⟩
      cases hentry with
      | absent none _ => exact none
      | standing k some _ _ => rw [hnone] at some; cases some
      | leaving p k _ _ field _ => rw [field] at hw; simp at hw
    · next k hk =>
      have only : ∀ q, q ≠ s.portOf d → (s.port q).noticeOf d = none := by
        cases hentry with
        | absent none _ => exact fun q _ => none q
        | standing _ _ only _ => exact only
        | leaving p k _ _ field _ => rw [field] at hw; simp at hw
      split
      · next hs =>
        exact ⟨h.askRemoval hk only hs, by
          rw [State.dom_updDom_self]
          exact NoticeField.fitsState_of_isWithdrawing (withdrawing_isWithdrawing k) _⟩
      · next hs =>
        have hs : (s.port (s.portOf d)).sendingNoticeOf d = false := by simpa using hs
        have removed : (s.updPort (s.portOf d) (fun u => { u with fwd := u.withoutNotice d })).NoticedBut d := by
          refine h.remove (p := s.portOf d) ?_ (fun q hq => ?_) only (fun _ => rfl) (fun _ => rfl)
          · rw [State.port_updPort_self]; exact PortUnit.removes_withoutNotice hs
          · rw [State.port_updPort_ne _ _ hq]; exact .refl _
        exact removed.settleNotice k false

end Sys2Proof.Machine
end

section
/-! Notice entries (the second part of O6), concluded: every move keeps the invariant. -/

namespace Sys2Proof.Machine

variable {s t : State} {d : Domain}

theorem NoticeField.fitsState_of_not_activates {n : NoticeField} {st : DomainState} (h : n.fitsState st = true)
    (hst : st.activates = false) (st' : DomainState) : n.fitsState st' = true := by
  cases n <;> cases st <;> simp_all [NoticeField.fitsState, DomainState.activates]

theorem NoticeField.ne_queuedAs_of_not_activates {n : NoticeField} {st : DomainState} (h : n.fitsState st = true)
    (hst : st.activates = false) (k : NoticeKind) : n ≠ queuedAs k := by
  rintro rfl
  cases k <;> cases st <;> simp_all [NoticeField.fitsState, DomainState.activates, queuedAs]

/-- The fields of all domains fit where those of one fit and the others stay. -/
theorem State.FieldsFit.at (h : s.FieldsFit) (others : ∀ e, e ≠ d → t.dom e = s.dom e)
    (hd : (t.dom d).notice.fitsState (t.dom d).state = true) : t.FieldsFit := fun e => by
  by_cases he : e = d
  · subst he; exact hd
  · rw [others e he]; exact h e

theorem State.FieldsFit.of_same (h : s.FieldsFit)
    (hd : ∀ d, (t.dom d).notice = (s.dom d).notice ∧ (t.dom d).state = (s.dom d).state) : t.FieldsFit := fun d => by
  rw [(hd d).1, (hd d).2]; exact h d

/-- A change of one record that keeps the notice field and the parameters. -/
theorem State.Noticed.updDom (h : s.Noticed) (d : Domain) {f : DomainRec → DomainRec}
    (hn : (f (s.dom d)).notice = (s.dom d).notice) (hp : (f (s.dom d)).params = (s.dom d).params) : (s.updDom d f).Noticed :=
  h.carry (fun _ => .refl _)
    (fun e => by
      rw [State.dom_updDom]
      split
      · next he => subst he; exact hn
      · rfl)
    (fun e => .inl (by
      rw [State.portOf, State.dom_updDom]
      split
      · next he => subst he; rw [hp]; rfl
      · rfl))

/-- A change of other blocks. -/
theorem State.Noticed.aside (h : s.Noticed) (ports : t.ports = s.ports) (domains : t.domains = s.domains) : t.Noticed :=
  h.carry (fun p => by rw [State.port, State.port, ports]; exact .refl _) (fun d => by rw [State.dom_of_domains domains])
    (fun d => .inl (by rw [State.portOf, State.dom_of_domains domains, State.portOf]))

theorem State.Noticed.enterState (h : s.Noticed) (d : Domain) (st : DomainState) : (s.enterState d st).Noticed :=
  h.carry (fun q => State.carries_rederive (s.updDom d _) _ q)
    (fun e => by rw [State.enterState_dom]; split <;> rfl)
    (fun e => .inl (by rw [State.portOf, State.enterState_dom]; split <;> rfl))

theorem State.NoticedAt.aside (h : s.NoticedAt d) (ports : t.ports = s.ports) (domains : t.domains = s.domains) :
    t.NoticedAt d := ⟨h.1.aside ports domains, by rw [State.dom_of_domains domains]; exact h.2⟩

theorem State.Noticed.switchOff (h : s.Noticed) (d : Domain) (st : DomainState) {f : DomainRec → DomainRec}
    (hf : (s.dom d).Quiet (f (s.dom d))) : (s.switchOff d st f).NoticedAt d := by
  have entered := (h.updDom d (f := fun r => { f r with wakeClass := none }) hf.notice hf.params).enterState d st
  unfold State.switchOff
  dsimp only
  generalize (s.updDom d (fun r => { f r with wakeClass := none })).enterState d st = u at entered ⊢
  have left : (u.updSlots (fun a => a.leaveQueue d)).Noticed := entered.aside rfl rfl
  have freed : ((u.updSlots (fun a => a.leaveQueue d)).updSlots (fun a => { a with holders := a.holders.set d none })).Noticed :=
    left.aside rfl rfl
  have released : ((u.updSlots (fun a => a.leaveQueue d)).releaseSlot d).Noticed := freed.updDom d rfl rfl
  exact (released.withdrawNotice d).aside rfl rfl

/-- At entry to WINDING from AWAKE no sleep notice stands (R88). -/
theorem NoticeField.eq_none_of_awake {n : NoticeField} (h : n.fitsState .awake = true) (hc : n ≠ .cancelQueued)
    (hw : n.isWithdrawing = false) : n = .none := by
  cases n <;> simp_all [NoticeField.fitsState, NoticeField.isWithdrawing]

theorem State.Noticed.startWind (h : s.Noticed) (d : Domain) : (s.updDom d DomainRec.startWind).Noticed :=
  h.updDom d (DomainRec.quiet_startWind _).notice (DomainRec.quiet_startWind _).params

theorem State.NoticedAt.startWind (h : s.NoticedAt d) : (s.updDom d DomainRec.startWind).NoticedAt d := by
  refine ⟨h.1.startWind d, ?_⟩
  rw [State.dom_updDom_self, (DomainRec.quiet_startWind _).notice, (DomainRec.quiet_startWind _).state]
  exact h.2

theorem State.NoticedAt.noticeAtWinding (h : s.NoticedAt d) (hst : (s.dom d).state = .winding)
    (hawake : (s.dom d).notice.fitsState .awake = true) : (s.noticeAtWinding d).NoticedAt d := by
  have offered : (s.dom d).notice ≠ .cancelQueued → (s.dom d).notice ≠ .withdrawingSleep →
      (s.dom d).notice ≠ .withdrawingCancel → (s.offerSleep d).NoticedAt d := fun hc hws hwc => by
    have hw : (s.dom d).notice.isWithdrawing = false := by
      cases hn : (s.dom d).notice <;> simp_all [NoticeField.isWithdrawing]
    exact (h.1.but (.inl (NoticeField.eq_none_of_awake hawake hc hw))).offerSleep hst
  unfold State.noticeAtWinding
  split
  · exact h.1.withdrawNotice d
  · exact h
  · exact h
  · next _ hc hws hwc => exact offered hc hws hwc
  · exact h.startWind
  · exact h.startWind
  · exact h.startWind
  · next _ hc hws hwc => exact offered hc hws hwc

theorem State.Noticed.enterWinding (h : s.Noticed) (hf : (s.dom d).notice.fitsState (s.dom d).state = true)
    (hst : (s.dom d).state = .awake) (r : SleepReason) : (s.enterWinding d r).NoticedAt d := by
  unfold State.enterWinding
  have entered := (h.updDom d
    (f := fun q => { q with idleTimer := .stopped, minAwakeTimer := none, sleepReason := some r }) rfl rfl).enterState d .winding
  have hd : ∀ f : DomainRec → DomainRec, (f (s.dom d)).notice = (s.dom d).notice →
      (((s.updDom d f).enterState d .winding).dom d).state = .winding ∧
        (((s.updDom d f).enterState d .winding).dom d).notice = (s.dom d).notice := fun f hf => by
    rw [State.enterState_dom, if_pos rfl, State.dom_updDom_self]
    exact ⟨rfl, hf⟩
  obtain ⟨hstate, hnotice⟩ := hd (fun q => { q with idleTimer := .stopped, minAwakeTimer := none, sleepReason := some r }) rfl
  rw [hst] at hf
  refine State.NoticedAt.noticeAtWinding ⟨entered, ?_⟩ hstate (by rw [hnotice]; exact hf)
  rw [hstate, hnotice]
  revert hf
  cases (s.dom d).notice <;> simp [NoticeField.fitsState, DomainState.activates]

theorem State.NoticedAt.noticeAtReturn (h : s.Noticed) (hst : (s.dom d).state = .awake) : (s.noticeAtReturn d).NoticedAt d := by
  unfold State.noticeAtReturn
  split
  · exact h.withdrawNotice d
  · next hn => exact (h.but (.inr hn)).offerCancel (by rw [hst]; rfl)
  · next hq hs =>
    refine ⟨h, ?_⟩
    rw [hst]
    cases hn : (s.dom d).notice <;> simp_all [NoticeField.fitsState, DomainState.activates]

theorem State.Noticed.returnAwake (h : s.Noticed) (d : Domain) (c : WakeClass) : (s.returnAwake d c).NoticedAt d := by
  unfold State.returnAwake State.enterAwake
  refine State.NoticedAt.noticeAtReturn (((h.updDom d rfl rfl).updDom d rfl rfl).enterState d .awake) ?_
  rw [State.enterState_dom, if_pos rfl]

theorem State.returnAwake_dom_ne (s : State) {e : Domain} (h : e ≠ d) (c : WakeClass) : (s.returnAwake d c).dom e = s.dom e := by
  have hn : ∀ t : State, (t.noticeAtReturn d).dom e = t.dom e := fun t => by
    unfold State.noticeAtReturn
    split
    · exact State.withdrawNotice_dom_ne _ h
    · exact State.offerCancel_dom_ne _ h
    · rfl
  rw [State.returnAwake, hn, State.enterAwake, State.enterState_dom, if_neg h, State.dom_updDom_ne _ _ h, State.dom_updDom_ne _ _ h]

/-! ### The ends of attempts -/

theorem State.accountEnd_port_ne (s : State) {p q : Port} (h : q ≠ p) (b : Bool) (o : TxOutcome) :
    (s.accountEnd p b o).port q = s.port q := by
  unfold State.accountEnd
  cases o with
  | success =>
    dsimp only
    split
    · rfl
    · exact State.port_updPort_ne _ _ h
  | lostArbitration => rfl
  | failure =>
    dsimp only [State.accountFailure]
    split
    · exact State.port_updPort_ne _ _ h
    · split
      · rw [State.port, State.windOnBlocked_ports]
        exact State.port_updPort_ne _ _ h
      · exact State.port_updPort_ne _ _ h

theorem State.attemptOver_port_ne (s : State) {p q : Port} (h : q ≠ p) (a : Attempt) (o : TxOutcome) :
    (s.attemptOver p a o).port q = s.port q := by
  rw [State.attemptOver, State.accountEnd_port_ne _ h, State.port_updPort_ne _ _ h]

/-- An attempt that was not asked to remove a notice takes none with it. -/
theorem State.Noticed.attemptOver (h : s.Noticed) {p : Port} {a : Attempt} (ha : (s.port p).attempt = some a)
    (hr : a.removal = false) (o : TxOutcome) : (s.attemptOver p a o).Noticed := by
  refine h.carry (fun q => ?_) (fun d => (s.attemptOver_dom p a o d).notice)
    (fun d => .inl (by rw [State.portOf, (s.attemptOver_dom p a o d).params, State.portOf]))
  by_cases hq : q = p
  · subst hq
    have hfwd := s.attemptOver_fwd q q a o
    refine ⟨by rw [hfwd], PortUnit.noticeOf_of_fwd hfwd, fun d hd => ?_, fun b hb => ?_⟩
    · obtain ⟨b, hb, -, hbr, -⟩ := hd
      obtain rfl := Option.some.inj (ha.symm.trans hb)
      rw [hr] at hbr
      cases hbr
    · rw [s.attemptOver_attempt] at hb; cases hb
  · rw [s.attemptOver_port_ne hq]; exact .refl _

theorem PortUnit.not_withdraws_of_head {u : PortUnit} {i : Ident} {k : NoticeKind} {rest : List FwdEntry}
    (hu : u.fwd = .notice d i k :: rest) {e : Domain} (he : e ≠ d) : ¬ u.Withdraws e := by
  rintro ⟨a, -, -, -, j, l, rest', hf⟩
  rw [hu] at hf
  exact he (FwdEntry.notice.inj (List.cons.inj hf).1).1.symm

/-- An entry at the head of a queue is the only one of its domain. -/
theorem State.Noticed.absent_elsewhere (h : s.Noticed) {p : Port} {i : Ident} {k : NoticeKind} {rest : List FwdEntry}
    (hfwd : (s.port p).fwd = .notice d i k :: rest) : ∀ q, q ≠ p → (s.port q).noticeOf d = none := by
  have hk : ((s.port p).noticeOf d).isSome = true := by
    rw [PortUnit.noticeOf_isSome, hfwd]; simp [FwdEntry.noticeDomain]
  intro q hq
  cases h.entries d with
  | absent none _ => exact none q
  | standing l _ only _ =>
    by_cases hp : p = s.portOf d
    · exact only q (hp ▸ hq)
    · rw [only p hp] at hk; cases hk
  | leaving r l _ only _ _ =>
    by_cases hp : p = r
    · exact only q (hp ▸ hq)
    · rw [only p hp] at hk; cases hk

/-- An attempt that was asked to remove the notice that it sent takes it along. -/
theorem State.Noticed.removed (h : s.Noticed) {p : Port} {a : Attempt} (o : TxOutcome) {i : Ident} {k : NoticeKind}
    {rest : List FwdEntry} (hfwd : (s.port p).fwd = .notice d i k :: rest) : ((s.attemptOver p a o).dropHead p).NoticedBut d := by
  have hdom : ∀ e, (s.dom e).Quiet (((s.attemptOver p a o).dropHead p).dom e) := fun e => s.attemptOver_dom p a o e
  refine h.remove (p := p) ?_ (fun q hq => ?_) (h.absent_elsewhere hfwd) (fun e => (hdom e).notice)
    (fun e => by rw [State.portOf, (hdom e).params, State.portOf])
  · refine PortUnit.removes_head hfwd (h.nodup p) ?_ ?_ (fun e he => PortUnit.not_withdraws_of_head hfwd he)
    · rw [State.dropHead, State.port_updPort_self]
      change ((s.attemptOver p a o).port p).fwd.drop 1 = rest
      rw [s.attemptOver_fwd, hfwd]
      rfl
    · rw [State.dropHead, State.port_updPort_self]
      exact s.attemptOver_attempt p a o
  · rw [State.dropHead, State.port_updPort_ne _ _ hq, s.attemptOver_port_ne hq]; exact .refl _

theorem State.Noticed.dropFrame (h : s.Noticed) {p : Port} {i : Ident} {data : List Byte} {b : Bool} {rest : List FwdEntry}
    (hn : (s.port p).attempt = none) (hfwd : (s.port p).fwd = .frame i data b :: rest) : (s.dropHead p).Noticed := by
  refine h.carry (fun q => State.carries_updPort s p q ⟨?_, fun d => ?_, fun d hd => ?_, fun a ha => ?_⟩) (fun _ => rfl)
    (fun _ => .inl rfl)
  · change ((s.port p).fwd.drop 1).filterMap _ = _
    rw [hfwd]
    rfl
  · simp [PortUnit.noticeOf_eq, hfwd, FwdEntry.kindFor]
  · obtain ⟨a, ha, -⟩ := hd
    rw [hn] at ha
    cases ha
  · have ha : (s.port p).attempt = some a := ha
    rw [hn] at ha
    cases ha

/-- A notice that was sent leaves the queue with its field queued as its kind says. -/
theorem State.Noticed.dropNotice (h : s.Noticed) {p : Port} {i : Ident} {k : NoticeKind} {rest : List FwdEntry}
    (hn : (s.port p).attempt = none) (hfwd : (s.port p).fwd = .notice d i k :: rest) :
    (s.dropHead p).NoticedBut d ∧ (s.dom d).notice = queuedAs k := by
  have hk : (s.port p).noticeOf d = some k := by rw [PortUnit.noticeOf_eq, hfwd]; simp [FwdEntry.kindFor]
  have hno : ∀ e, ¬ (s.port p).Withdraws e := by
    rintro e ⟨a, ha, -⟩
    rw [hn] at ha
    cases ha
  constructor
  · refine h.remove (p := p) ?_ (fun q hq => ?_) (h.absent_elsewhere hfwd) (fun _ => rfl) (fun _ => rfl)
    · refine PortUnit.removes_head hfwd (h.nodup p) ?_ ?_ (fun e _ => hno e)
      · rw [State.dropHead, State.port_updPort_self]
        simp [hfwd]
      · rw [State.dropHead, State.port_updPort_self]
        exact hn
    · rw [State.dropHead, State.port_updPort_ne _ _ hq]; exact .refl _
  · cases h.entries d with
    | absent none _ => rw [none p] at hk; cases hk
    | standing l some only field =>
      by_cases hp : p = s.portOf d
      · subst hp
        obtain rfl := Option.some.inj (some.symm.trans hk)
        exact field
      · rw [only p hp] at hk; cases hk
    | leaving q l some only field sent =>
      by_cases hp : p = q
      · subst hp; exact absurd sent (hno d)
      · rw [only p hp] at hk; cases hk

theorem State.NoticedBut.noticeSent (h : s.NoticedBut d) {k : NoticeKind}
    (hf : (queuedAs k).fitsState (s.dom d).state = true) : (s.noticeSent d k).NoticedAt d := by
  unfold State.noticeSent
  split
  · have hst : (s.dom d).state = .winding := by simpa [queuedAs, NoticeField.fitsState] using hf
    refine ⟨h.settle _ ?_ (.inr rfl), ?_⟩
    · simp [hst, DomainRec.startWind_params]
    · rw [State.dom_updDom_self]
      simp [hst, DomainRec.startWind_state, NoticeField.fitsState]
  · exact h.none

theorem State.noticeSent_dom_ne (s : State) {e : Domain} (h : e ≠ d) (k : NoticeKind) : (s.noticeSent d k).dom e = s.dom e := by
  unfold State.noticeSent
  split <;> exact State.dom_updDom_ne _ _ h

/-! ### The moves -/

theorem State.Noticed.params (h : s.Noticed) (hf : s.FieldsFit) (d : Domain) (q : DomainParams)
    (hq : q.port = (s.dom d).params.port ∨ (s.dom d).state = .asleep ∧ (d = Domain.D0 ↔ q.port = Port.B)) :
    (s.updDom d (fun r => { r with params := q })).Noticed := by
  refine h.carry (fun _ => .refl _) (fun e => by rw [State.dom_updDom]; split <;> rfl) (fun e => ?_)
  rw [State.portOf, State.dom_updDom]
  split
  · next he =>
    subst he
    rcases hq with hport | ⟨hasleep, -⟩
    · exact .inl hport
    · have hfe := hf e
      rw [hasleep] at hfe
      exact .inr (fun k => NoticeField.ne_queuedAs_of_not_activates hfe rfl k)
  · exact .inl rfl

theorem State.noticed_atReset (m : Management) (n : Nat) (cs : List Instr) : (State.blocksAtReset m n cs).Noticed := by
  have hfwd : ∀ p, ((State.blocksAtReset m n cs).port p).fwd = [] := fun p => by
    rw [State.port, State.blocksAtReset, portsAtReset_get]; split <;> rfl
  have hattempt : ∀ p, ((State.blocksAtReset m n cs).port p).attempt = none := fun p => by
    rw [State.port, State.blocksAtReset, portsAtReset_get]; split <;> rfl
  have hdom : ∀ d, (State.blocksAtReset m n cs).dom d = DomainRec.atReset d := fun d => Tab.get_ofFn _ _
  refine ⟨fun p => by rw [hfwd]; exact List.nodup_nil, fun d => .absent (fun p => ?_) (.inl (by rw [hdom]; rfl)),
    fun p a ha => by rw [hattempt] at ha; cases ha⟩
  rw [PortUnit.noticeOf_eq, hfwd]
  rfl

theorem State.fieldsFit_atReset (m : Management) (n : Nat) (cs : List Instr) : (State.blocksAtReset m n cs).FieldsFit :=
  fun d => by
    rw [State.dom, State.blocksAtReset, Tab.get_ofFn]
    rfl

/-- Every move that a tidy state allows keeps the notices fit. -/
theorem Move.noticesFit (h : Move True s t) (hs : s.NoticesFit) : t.NoticesFit := by
  obtain ⟨hn, hf⟩ := State.noticesFit_iff.mp hs
  refine State.noticesFit_iff.mpr ?_
  cases h with
  | quiet _ port dom _ _ =>
    exact ⟨hn.carry (fun p => (port p).carries) (fun d => (dom d).notice)
      (fun d => .inl (by rw [State.portOf, (dom d).params, State.portOf])),
      hf.of_same (fun d => ⟨(dom d).notice, (dom d).state⟩)⟩
  | enter d st hst =>
    refine ⟨hn.enterState d st, hf.at (fun e he => by rw [State.enterState_dom, if_neg he]) ?_⟩
    rw [State.enterState_dom, if_pos rfl]
    exact NoticeField.fitsState_of_not_activates (hf d) (hst trivial) st
  | off d st f _ hq =>
    obtain ⟨noticed, fits⟩ := hn.switchOff d st hq
    exact ⟨noticed, hf.at (fun e he => s.switchOff_dom_ne he st f) fits⟩
  | wind d r hst =>
    obtain ⟨noticed, fits⟩ := hn.enterWinding (hf d) hst r
    exact ⟨noticed, hf.at (fun e he => s.enterWinding_dom_ne he r) fits⟩
  | back d c _ =>
    obtain ⟨noticed, fits⟩ := hn.returnAwake d c
    exact ⟨noticed, hf.at (fun e he => s.returnAwake_dom_ne he c) fits⟩
  | mode m =>
    have hdom : ∀ d, (({ s with management := { s.management with mode := m } } : State).rederiveAll).dom d = s.dom d :=
      fun d => State.dom_of_domains (State.rederiveAll_domains _) d
    exact ⟨hn.carry (fun q => State.carries_rederiveAll { s with management := { s.management with mode := m } } q)
      (fun d => by rw [hdom]) (fun d => .inl (by rw [State.portOf, hdom, State.portOf])),
      hf.of_same (fun d => by rw [hdom]; exact ⟨rfl, rfl⟩)⟩
  | params d q hq =>
    exact ⟨hn.params hf d q hq, hf.of_same (fun e => by rw [State.dom_updDom]; split <;> exact ⟨rfl, rfl⟩)⟩
  | ended p a o ha hr =>
    exact ⟨hn.attemptOver ha (hr trivial) o,
      hf.of_same (fun d => ⟨(s.attemptOver_dom p a o d).notice, (s.attemptOver_dom p a o d).state⟩)⟩
  | removed p a o d i k rest sent _ _ hfwd =>
    obtain ⟨noticed, fits⟩ := (hn.removed (a := a) o hfwd).settleNotice k sent
    have ended : ((s.attemptOver p a o).dropHead p).FieldsFit :=
      hf.of_same (fun d => ⟨(s.attemptOver_dom p a o d).notice, (s.attemptOver_dom p a o d).state⟩)
    exact ⟨noticed, ended.at (fun e he => State.settleNotice_dom_ne _ he k sent) fits⟩
  | sentFrame p i data b rest hnone hfwd => exact ⟨hn.dropFrame hnone hfwd, hf⟩
  | sentNotice p d i k rest hnone hfwd =>
    obtain ⟨but, hfield⟩ := hn.dropNotice hnone hfwd
    obtain ⟨noticed, fits⟩ := but.noticeSent (k := k) (by rw [← hfield]; exact hf d)
    have dropped : (s.dropHead p).FieldsFit := hf
    exact ⟨noticed, dropped.at (fun e he => State.noticeSent_dom_ne _ he k) fits⟩
  | reset m n cs _ _ => exact ⟨State.noticed_atReset m n cs, State.fieldsFit_atReset m n cs⟩

/-- Every step keeps the notices fit, where every entry of the wait queue is of a QUEUED domain. -/
theorem step_noticesFit (hw : s.WaitQueueFits) (hn : s.NoticesFit) (h : step s = .next t) : t.NoticesFit := by
  have tidy : True → s.Tidy := fun _ => ⟨hn, fun e he => (hw.1 e.domain).mp ⟨e, he, rfl⟩⟩
  exact (moves_step tidy h).keeps (fun _ _ => Move.noticesFit) hn

end Sys2Proof.Machine
end

section
/-! Contribution lists (the third part of O6), and O6 itself. -/

namespace Sys2Proof.Machine

variable {s t : State}

theorem State.rederiveAll_fixed (s : State) : s.rederiveAll.fixed = s.fixed :=
  State.foldl_keeps (fun t => t.fixed) _ (fun t p => t.rederive_fixed p) _ s

theorem State.contributionsFit_atReset (m : Management) (n : Nat) (cs : List Instr) :
    (State.blocksAtReset m n cs).ContributionsFit := fun i => by
  simp [State.blocksAtReset, Engine.atReset, Table.atReset, GroupDef.atReset]

theorem Shift.contributionsFit (h : Shift s t) (hs : s.ContributionsFit) : t.ContributionsFit := by
  cases h with
  | quiet _ _ _ _ lists => exact lists hs
  | enter d st => exact hs.of_fixed (by simp)
  | notice h => exact hs.of_fixed h.fixed
  | mode m =>
    have written : ({ s with management := { s.management with mode := m } } : State).ContributionsFit := hs
    exact written.of_fixed (State.rederiveAll_fixed _)
  | params d q _ => exact hs
  | ended p a o _ => exact hs.of_fixed (by simp [State.attemptOver])
  | drop p => exact hs
  | reset m n cs _ _ => exact State.contributionsFit_atReset m n cs

end Sys2Proof.Machine

open Sys2Proof Sys2Proof.Machine

/-- Settles O6: the bounds and the contribution lists are kept by every shift, and the notices by every move of a tidy state. -/
theorem queuesAndCountersStayInRange : Obligations.QueuesAndCountersStayInRange :=
  ⟨fun _ _ hq hc h => step_bounded hq hc h, fun _ _ _ _ hw hn h => step_noticesFit hw hn h,
    fun _ _ hc h => step_keeps_of_shift (fun _ _ => Shift.contributionsFit) h hc⟩

end

section
/-! The terms of the claims in the model's words, and the frames that a port takes (O14, O15, O46, O47). -/

namespace Sys2Proof.Machine

open Sys2Proof.Claims

variable {s t : State}

/-! ### Ports and domains replaced -/

theorem State.updPort_eq_onPort (s : State) (p : Port) (f : PortUnit → PortUnit) :
    s.updPort p f = onPort s p (f (s.port p)) := rfl

theorem State.updDom_eq_onDomain (s : State) (d : Domain) (f : DomainRec → DomainRec) :
    s.updDom d f = onDomain s d (f (s.dom d)) := rfl

@[simp] theorem onPort_port_self (s : State) (p : Port) (u : PortUnit) : (onPort s p u).port p = u := Tab.get_set_self _ _ _

theorem onPort_port (s : State) (p q : Port) (u : PortUnit) : (onPort s p u).port q = if q = p then u else s.port q :=
  Tab.get_set _ _ _ _

@[simp] theorem onDomain_dom_self (s : State) (d : Domain) (r : DomainRec) : (onDomain s d r).dom d = r := Tab.get_set_self _ _ _

theorem onDomain_dom (s : State) (d e : Domain) (r : DomainRec) : (onDomain s d r).dom e = if e = d then r else s.dom e :=
  Tab.get_set _ _ _ _

theorem Tab.set_set {α : Type} {n : Nat} (t : Tab α n) (i : Fin n) (x y : α) : (t.set i x).set i y = t.set i y :=
  Tab.ext_get (fun k => by simp only [Tab.get_set]; split <;> rfl)

@[simp] theorem onPort_onPort (s : State) (p : Port) (u v : PortUnit) : onPort (onPort s p u) p v = onPort s p v := by
  simp [onPort, Tab.set_set]

@[simp] theorem onDomain_onDomain (s : State) (d : Domain) (q r : DomainRec) : onDomain (onDomain s d q) d r = onDomain s d r := by
  simp [onDomain, Tab.set_set]

@[simp] theorem onPort_self (s : State) (p : Port) : onPort s p (s.port p) = s := by simp [onPort, State.port]

@[simp] theorem onDomain_self (s : State) (d : Domain) : onDomain s d (s.dom d) = s := by simp [onDomain, State.dom]

/-- Two changes of one port are one. -/
theorem State.updPort_updPort (s : State) (p : Port) (f g : PortUnit → PortUnit) :
    (s.updPort p f).updPort p g = onPort s p (g (f (s.port p))) := by
  rw [State.updPort_eq_onPort, State.updPort_eq_onPort, onPort_port_self, onPort_onPort]

/-! ### Counting, hearing and storing (R3, R9, R16, R17) -/

theorem satInc_counterMax (n : Nat) : satInc Config.counterMax n = counted n := rfl

theorem PortUnit.leaveBlocked_eq_hearing (u : PortUnit) : u.leaveBlocked = hearing u := by
  unfold PortUnit.leaveBlocked hearing
  cases u
  split <;> simp_all

theorem PortUnit.countReceived_leaveBlocked (u : PortUnit) : u.countReceived.leaveBlocked = heardUnit u := by
  rw [PortUnit.leaveBlocked_eq_hearing]; rfl

theorem State.frameHeard_eq (s : State) (p : Port) :
    s.frameHeard p PortUnit.countReceived = onPort s p (heardUnit (s.port p)) := by
  rw [State.frameHeard, State.updPort_eq_onPort, PortUnit.countReceived_leaveBlocked]

theorem markNewest_eq (l : List FrameRecord) :
    markNewest l = l.dropLast ++ l.getLast?.toList.map (fun x => { x with overrunMark := true }) := by
  induction l with
  | nil => rfl
  | cons r rest ih =>
    cases rest with
    | nil => rfl
    | cons x rest => rw [markNewest, ih]; simp; simp

theorem PortUnit.store_eq_stored (u : PortUnit) (r : FrameRecord) : u.store r = stored u r := by
  unfold PortUnit.store stored
  rw [markNewest_eq]
  rfl

/-- A frame that a port takes and keeps is counted, ends BLOCKED and is stored. -/
theorem State.heard_stored (s : State) (p : Port) (i : Ident) (data : List Byte) :
    (s.frameHeard p PortUnit.countReceived).updPort p (fun u => u.store (s.portRecord p i data)) =
      onPort s p (stored (heardUnit (s.port p)) (frameRecord s p i data)) := by
  rw [State.frameHeard_eq, State.updPort_eq_onPort, onPort_port_self, onPort_onPort, PortUnit.store_eq_stored]
  rfl

/-! ### Request frames (R162, R163, R175) -/

/-- A request of at most six argument bytes is its frame, taken by B. -/
theorem takeRequest_eq_requestFrame {code tag : Byte} {args : List Byte} {manage : Byte → List Byte → State → State}
    (hlen : (code :: tag :: args).length ≤ 8) (hm : manageData (code :: tag :: args) = manage tag args) :
    takeRequest code tag args manage s =
      .next (s.requestFrame (code :: tag :: args) (manageData (code :: tag :: args))) := by
  have hargs : frameArgs args = args := List.take_of_length_le (by simp at hlen; omega)
  rw [takeRequest, hargs, hm]

/-- Every request has the effect of its frame. -/
theorem exec_eq_requestFrame {i : Instr} {bytes : List Byte} (hw : i.wellFormed = true) (hb : requestBytes i = some bytes) :
    exec i s = .next (s.requestFrame bytes (manageData bytes)) := by
  cases i
  case unknownRequest data =>
    obtain rfl := Option.some.inj hb
    have hlen : data.length ≤ 8 := by
      simp only [Instr.wellFormed, Bool.and_eq_true, decide_eq_true_eq] at hw
      exact hw.1
    simp only [exec, execUnknownRequest, List.take_of_length_le hlen]
  case powerOnReset | resetDeadlineExpiry | frameTaken | commitCompletion | matchGrant | evaluationCompletion | slotGrant |
      readyTimerExpiry | holdExpiry | idleExpiry | minAwakeElapse | windExpiry | transmissionStart | transmissionEnd |
      recoveryTimerExpiry | replayStart | bufferFree | contributionExpiry | lineSample | parkSecond | refillExpiry |
      timerExpiry => cases hb
  all_goals
    obtain rfl := Option.some.inj hb
    exact takeRequest_eq_requestFrame (by simpa [Instr.wellFormed, requestBytes] using hw) rfl

/-- A frame that a bus can carry holds the bytes that its length code says. -/
theorem frameData_of_wellFormed {i : Ident} {code : BitVec 4} {bytes : List Byte}
    (h : (BusFrame.data i code bytes).wellFormed = true) : frameData code bytes = bytes := by
  have hlen : bytes.length = min code.toNat 8 := by simpa [BusFrame.wellFormed] using h
  rw [frameData, ← hlen, List.take_left]

theorem State.requestFrame_listen (h : (s.port Port.B).active = false) (data : List Byte) (manage : State → State) :
    s.requestFrame data manage =
      onPort s Port.B (stored (heardUnit (s.port Port.B)) (frameRecord s Port.B s.requestId data)) := by
  simp only [State.requestFrame, h]
  exact s.heard_stored Port.B s.requestId data

theorem State.requestFrame_pending (h : (s.port Port.B).active = true) (hr : s.management.resetPending = true)
    (data : List Byte) (manage : State → State) : s.requestFrame data manage = onPort s Port.B (heardUnit (s.port Port.B)) := by
  simp [State.requestFrame, h, hr, State.frameHeard_eq]

end Sys2Proof.Machine

open Sys2Proof Sys2Proof.Machine Sys2Proof.Claims

/-- Settles O14: the frame's data bytes are the request's bytes, and a request has the effect of its frame. -/
theorem aRequestFrameIsItsRequest : Obligations.ARequestFrameIsItsRequest := by
  intro i bytes code s hw hb hf
  rw [exec_eq_requestFrame hw hb]
  simp only [exec, execFrameTaken, and_self, if_true, frameData_of_wellFormed hf]

/-- Settles O15: neither branch of the request frame reaches the Management Unit. -/
theorem requestsAreNotExecutedInListenOrResetPending : Obligations.RequestsAreNotExecutedInListenOrResetPending := by
  intro i bytes s hw hb
  exact ⟨fun hl => ⟨_, exec_eq_requestFrame hw hb, State.requestFrame_listen hl bytes _⟩,
    fun ha hr => ⟨_, exec_eq_requestFrame hw hb, State.requestFrame_pending ha hr bytes _⟩⟩

/-- Settles O47, by the kind of the frame; at the request identifier B keeps the frame because it listens. -/
theorem framesTakenAreCountedAndStored : Obligations.FramesTakenAreCountedAndStored := by
  constructor
  · intro s p i code bytes hf hcase
    have hdata := frameData_of_wellFormed hf
    by_cases hreq : p = Port.B ∧ i = s.requestId
    · obtain ⟨rfl, rfl⟩ := hreq
      have hl : (s.port Port.B).active = false := by simpa using hcase
      refine ⟨_, ?_, State.requestFrame_listen hl bytes (manageData bytes)⟩
      simp only [exec, execFrameTaken, and_self, if_true, hdata]
    · refine ⟨_, ?_, s.heard_stored p i bytes⟩
      simp only [exec, execFrameTaken, if_neg hreq, hdata]
  · intro s p f hf
    have heard : s.frameHeard p PortUnit.countUnsupported =
        onPort s p { hearing (s.port p) with unsupported := counted (s.port p).unsupported, unsupportedSeen := true } := by
      rw [State.frameHeard, State.updPort_eq_onPort, PortUnit.leaveBlocked_eq_hearing]
      rfl
    cases f with
    | data i code bytes => exact absurd rfl (hf i code bytes)
    | remote _ => exact ⟨_, rfl, heard⟩
    | extended _ => exact ⟨_, rfl, heard⟩
    | extendedRemote _ => exact ⟨_, rfl, heard⟩

end

section
/-! Answers of the Management Unit in the claims' words, Read Port Status (O46) and the Match Arbiter (O48). -/

namespace Sys2Proof.Machine

open Sys2Proof.Claims

variable {s t : State}

/-! ### Answers (R162 to R164, R171) -/

theorem State.respond_eq_answered (s : State) (code tag : Byte) (a : Answer) :
    s.respond code tag a = answered s (responseBytes code tag a) := rfl

theorem State.heard_setPrepared (s : State) :
    (s.frameHeard Port.B PortUnit.countReceived).setPrepared false = taken s := by
  rw [State.frameHeard_eq]; rfl

/-- A request that is executed with the bytes that it needs is answered as its body says. -/
theorem State.manage_heard {code tag : Byte} {args : List Byte} {needed : Nat} {body : State → State × Answer}
    (h : needed ≤ args.length) :
    (s.frameHeard Port.B PortUnit.countReceived).manage code tag args needed body =
      answered (body (taken s)).1 (responseBytes code tag (body (taken s)).2) := by
  rw [State.manage_long _ h, State.heard_setPrepared, State.respond_eq_answered]

theorem beBytes_two (n : Nat) : beBytes 2 n = two n := by simp [beBytes, two]

/-! ### Read Port Status (R18, R19, R178) -/

theorem asPort_of_le {n : Nat} (h : 7 ≤ n) : asPort n = none := by simp [asPort, Nat.not_lt.mpr h]

theorem asPort_val (p : Port) : asPort p.val = some p := by simp [asPort]

theorem PortUnit.flagByte_eq (u : PortUnit) :
    u.flagByte = BitVec.ofNat 8 (u.failures + (if u.overrunSeen = true then 16 else 0) +
      (if u.failureSeen = true then 32 else 0) + (if u.blockedSeen = true then 64 else 0) +
        if u.unsupportedSeen = true then 128 else 0) := by
  simp only [PortUnit.flagByte, oneByte, boolBit, mul_ite, Nat.mul_one, Nat.mul_zero]

theorem PortUnit.stateCode_eq (u : PortUnit) :
    oneByte u.stateCode = if u.active = false then 0 else if u.blocked = false then 1 else 2 := by
  cases ha : u.active <;> cases hb : u.blocked <;> simp [PortUnit.stateCode, ha, hb, oneByte]

theorem PortUnit.noticeByte_eq (u : PortUnit) :
    oneByte (u.noticeEntries + 16 * boolBit u.replay.isSome) =
      BitVec.ofNat 8 (u.noticeEntries + if u.replay.isSome = true then 16 else 0) := by
  simp only [oneByte, boolBit, mul_ite, Nat.mul_one, Nat.mul_zero]

/-- What Read Port Status answers, by the port and the page (R19, R178). -/
theorem answerReadPortStatus_none {args : List Byte} (h : 7 ≤ (argByte args 2).toNat) :
    answerReadPortStatus args s = (s, .bare .index) := by
  rw [answerReadPortStatus, asPort_of_le h]

theorem answerReadPortStatus_noPage {args : List Byte} {p : Port} (h : p.val = (argByte args 2).toNat)
    (hpage : portPage (s.port p) (argByte args 3).toNat = none) : answerReadPortStatus args s = (s, .bare .index) := by
  simp only [answerReadPortStatus, ← h, asPort_val, hpage]

theorem answerReadPortStatus_page {args : List Byte} {p : Port} {data : List Byte} (h : p.val = (argByte args 2).toNat)
    (hpage : portPage (s.port p) (argByte args 3).toNat = some data) :
    answerReadPortStatus args s =
      (if (argByte args 3).toNat = 0 then s.updPort p PortUnit.clearFlags else s, .okay data) := by
  simp only [answerReadPortStatus, ← h, asPort_val, hpage]

/-! ### The Match Arbiter (R21) -/

/-- The first input in the circular order from the pointer that holds a record. -/
theorem State.nextInput_eq {k : Fin 10} (hk : s.inputQueue (s.pointer + k) ≠ [])
    (hj : ∀ j : Fin 10, j < k → s.inputQueue (s.pointer + j) = []) : s.nextInput = some (s.pointer + k) := by
  have first : (List.finRange 10).find? (fun i => !(s.inputQueue (s.pointer + i)).isEmpty) = some k := by
    rw [List.find?_eq_some_iff_getElem]
    refine ⟨by simpa using hk, k.val, by simp, by simp, fun j hlt => ?_⟩
    have := hj ⟨j, hlt.trans k.isLt⟩ hlt
    simpa using this
  rw [State.nextInput, grantOrder, List.find?_map]
  exact congrArg (Option.map (s.pointer + ·)) first

theorem State.nextInput_none (h : ∀ i : Fin 10, s.inputQueue i = []) : s.nextInput = none := by
  rw [State.nextInput, List.find?_eq_none]
  intro i _
  simp [h i]

/-- The oldest record leaves a receive FIFO, the line queue, the timer queue or the injection queue (R1). -/
theorem State.dropOldest_cases (s : State) (i : Fin 10) :
    (∃ h : i.val < 7, s.dropOldest i = s.updPort ⟨i.val, h⟩ (fun u => { u with rx := u.rx.tail })) ∨
      (i = 7 ∧ s.dropOldest i = { s with lineUnit := { s.lineUnit with queue := s.lineUnit.queue.tail } }) ∨
      (i = 8 ∧ s.dropOldest i = { s with timerUnit := { s.timerUnit with queue := s.timerUnit.queue.tail } }) ∨
      (i = 9 ∧ s.dropOldest i = { s with management := { s.management with injection := s.management.injection.tail } }) := by
  unfold State.dropOldest
  split
  · next h => exact .inl ⟨h, by simp only [List.drop_one]⟩
  · next h7 =>
    split
    · next h => exact .inr (.inl ⟨Fin.ext h, by rw [List.drop_one]⟩)
    · next h8 =>
      split
      · next h => exact .inr (.inr (.inl ⟨Fin.ext h, by rw [List.drop_one]⟩))
      · next h9 => exact .inr (.inr (.inr ⟨by omega, by rw [List.drop_one]⟩))

/-- The oldest record leaves the queue of its input, and the queues of the others stay. -/
theorem State.inputQueue_dropOldest (s : State) (i k : Fin 10) :
    (s.dropOldest i).inputQueue k = if k = i then (s.inputQueue k).tail else s.inputQueue k := by
  by_cases hki : k = i
  · subst hki
    rw [if_pos rfl]
    rcases s.dropOldest_cases k with ⟨h, hd⟩ | ⟨rfl, hd⟩ | ⟨rfl, hd⟩ | ⟨rfl, hd⟩ <;> rw [hd]
    · simp [State.inputQueue, h]
    · rfl
    · rfl
    · rfl
  · rw [if_neg hki]
    have hv : k.val ≠ i.val := fun h => hki (Fin.ext h)
    unfold State.inputQueue
    rcases s.dropOldest_cases i with ⟨h, hd⟩ | ⟨rfl, hd⟩ | ⟨rfl, hd⟩ | ⟨rfl, hd⟩ <;> rw [hd]
    · split
      · next hk =>
        have hne : (⟨k.val, hk⟩ : Port) ≠ ⟨i.val, h⟩ := fun he => hv (Fin.mk.inj he)
        rw [State.port_updPort_ne _ _ hne]
      · rfl
    · have h7 : k.val ≠ 7 := hv
      rw [if_neg h7, if_neg h7]
      rfl
    · have h8 : k.val ≠ 8 := hv
      rw [if_neg h8, if_neg h8]
      rfl
    · split
      · rfl
      · split
        · rfl
        · split
          · rfl
          · next h7 h8 h9 => exact absurd k.isLt (by simp at hv; omega)

end Sys2Proof.Machine

open Sys2Proof Sys2Proof.Machine Sys2Proof.Claims

/-- Settles O46, by the page. -/
theorem readPortStatusReportsAPage : Obligations.ReadPortStatusReportsAPage := by
  intro s tag b page rest hs
  have hexec : exec (.readPortStatus tag (b :: page :: rest)) s = .next
      (answered (answerReadPortStatus (b :: page :: rest.take 4) (taken s)).1
        (responseBytes 0x39 tag (answerReadPortStatus (b :: page :: rest.take 4) (taken s)).2)) := by
    refine (takeRequest_next s 0x39 tag (b :: page :: rest) manageReadPortStatus hs.1 hs.2).trans (congrArg _ ?_)
    exact State.manage_heard (by simp [frameArgs])
  refine ⟨_, hexec, fun hb => ?_, fun p hp => ?_⟩
  · rw [answerReadPortStatus_none (by exact hb)]
    rfl
  · have hnone := answerReadPortStatus_noPage (s := taken s) (args := b :: page :: rest.take 4) hp
    have hsome := fun data => answerReadPortStatus_page (s := taken s) (args := b :: page :: rest.take 4) (data := data) hp
    rw [show argByte (b :: page :: rest.take 4) 3 = page from rfl] at hnone hsome
    generalize page.toNat = n at hnone hsome
    match n with
    | 0 =>
      rw [hsome _ rfl]
      simp only [PortUnit.stateCode_eq, PortUnit.flagByte_eq, PortUnit.noticeByte_eq]
      rfl
    | 1 | 2 | 3 | 4 =>
      rw [hsome _ rfl]
      simp only [beBytes_two]
      rfl
    | n + 5 =>
      rw [hnone rfl]
      rfl

/-- Settles O48: the grant is of the first input in the circular order, and the other inputs keep their records. -/
theorem theArbiterGrantsInCircularOrder : Obligations.TheArbiterGrantsInCircularOrder := by
  intro s
  refine ⟨s.grantMatch, rfl, fun hnone => ?_, fun hflight hcommit k hk hj => ?_⟩
  · unfold State.grantMatch
    split
    · rfl
    · next hfree =>
      rw [State.nextInput_none]
      rcases hnone with h | h | h
      · exact absurd (Option.isSome_iff_ne_none.mpr h) (by simp_all)
      · simp [h] at hfree
      · exact h
  · have hgrant : s.grantMatch = { (s.dropOldest (s.pointer + k)).updEngine
        (fun e => { e with inFlight := (s.inputQueue (s.pointer + k)).head? }) with pointer := s.pointer + k + 1 } := by
      simp [State.grantMatch, hflight, hcommit, State.nextInput_eq hk hj]
    have hqueue := s.inputQueue_dropOldest (s.pointer + k)
    generalize s.pointer + k = i at hgrant hqueue ⊢
    rw [hgrant]
    refine ⟨?_, rfl, hqueue, ?_⟩
    · rcases s.dropOldest_cases i with ⟨_, hd⟩ | ⟨-, hd⟩ | ⟨-, hd⟩ | ⟨-, hd⟩ <;> rw [hd] <;> rfl
    · rcases s.dropOldest_cases i with ⟨_, hd⟩ | ⟨-, hd⟩ | ⟨-, hd⟩ | ⟨-, hd⟩ <;> rw [hd]
      · refine ⟨fun p => ?_, rfl, rfl, rfl, rfl, rfl, rfl, rfl, rfl, rfl, rfl, rfl⟩
        have hport : ∀ f : PortUnit → PortUnit, (∀ u, f u = { u with rx := (f u).rx }) → ∀ q : Port,
            (s.updPort q f).port p = { s.port p with rx := ((s.updPort q f).port p).rx } := fun f hf q => by
          rw [State.port_updPort]
          split
          · exact hf _
          · rfl
        exact hport _ (fun _ => rfl) _
      · exact ⟨fun _ => rfl, rfl, rfl, rfl, rfl, rfl, rfl, rfl, rfl, rfl, rfl, rfl⟩
      · exact ⟨fun _ => rfl, rfl, rfl, rfl, rfl, rfl, rfl, rfl, rfl, rfl, rfl, rfl⟩
      · exact ⟨fun _ => rfl, rfl, rfl, rfl, rfl, rfl, rfl, rfl, rfl, rfl, rfl, rfl⟩

end

section
/-! The state after reset (O12). -/

namespace Sys2Proof.Machine

/-- Without forward entries, attempts and notice fields the notices fit. -/
theorem State.noticesFit_of_empty {s : State} (hp : ∀ p, (s.port p).fwd = [] ∧ (s.port p).attempt = none)
    (hd : ∀ d, (s.dom d).notice = .none) : s.NoticesFit := by
  refine State.noticesFit_iff.mpr ⟨⟨fun p => ?_, fun d => .absent (fun p => ?_) (.inl (hd d)), fun p a ha => ?_⟩, fun d => ?_⟩
  · rw [(hp p).1]; exact List.nodup_nil
  · rw [PortUnit.noticeOf_eq, (hp p).1]; rfl
  · rw [(hp p).2] at ha; cases ha
  · rw [hd d]; rfl

/-- Without replays and attempts the replays fit. -/
theorem State.replaysFit_of_idle {s : State} (hp : ∀ p, (s.port p).replay = none ∧ (s.port p).attempt = none) :
    s.ReplaysFit := fun p => by
  rw [(hp p).1, (hp p).2]
  simp

end Sys2Proof.Machine

open Sys2Proof Sys2Proof.Machine

/-- Settles O12: each property is evaluated at the one state. -/
theorem everyInvariantHoldsAtReset : Obligations.EveryInvariantHoldsAtReset := by
  refine ⟨?_, ?_, ?_, ?_, ?_, ?_, ?_, ?_, ?_, ?_, ?_, ?_, ?_, ?_, ?_, ?_, ?_, ?_, ?_, ?_, ?_, ?_, ?_⟩
  case refine_21 => exact State.replaysFit_of_idle (by decide +kernel)
  case refine_22 => exact State.noticesFit_of_empty (by decide +kernel) (by decide +kernel)
  all_goals decide +kernel

end

section
/-! Capture buffers and the ends of attempts in the claims' words; starts (O56) and replay attempts (O58). -/

namespace Sys2Proof.Machine

open Sys2Proof.Claims

variable {s t : State}

/-! ### Frames due (R146, R149) -/

theorem Buffer.slotDue_eq (b : Buffer) (p : Port) (i : Nat) : b.slotDue p i = (b.slots[i]?).any (fun f => f.due p) := by
  unfold Buffer.slotDue Buffer.frame
  cases b.slots[i]? <;> rfl

theorem countP_range_getElem? {α : Type} (l : List α) (q : α → Bool) :
    (List.range l.length).countP (fun i => (l[i]?).any q) = l.countP q := by
  have hl : (List.range l.length).map (fun i => l[i]?) = l.map some :=
    List.ext_getElem (by simp) (fun i h₁ h₂ => by simp at h₁; simp [h₁])
  calc (List.range l.length).countP (fun i => (l[i]?).any q)
      = ((List.range l.length).map (fun i => l[i]?)).countP (fun o => o.any q) := by rw [List.countP_map]; rfl
    _ = l.countP q := by rw [hl, List.countP_map]; rfl

/-- Past the length of a list nothing is found, so that a longer range counts the same. -/
theorem countP_range_of_le {n m : Nat} {q : Nat → Bool} (h : n ≤ m) (hq : ∀ i, n ≤ i → q i = false) :
    (List.range m).countP q = (List.range n).countP q := by
  obtain ⟨k, rfl⟩ := Nat.exists_eq_add_of_le h
  have hnone : ((List.range k).map (fun i => n + i)).countP q = 0 := List.countP_eq_zero.mpr (fun i hi => by
    obtain ⟨j, -, rfl⟩ := List.mem_map.mp hi
    simp [hq (n + j) (Nat.le_add_right n j)])
  rw [List.range_add, List.countP_append, hnone, Nat.add_zero]

/-- The frames due on a port do not depend on where the ring of slots begins. -/
theorem Buffer.dueCount_eq_dueOn (b : Buffer) (p : Port) : b.dueCount p = dueOn b p := by
  have hcount : (List.range b.slots.length).countP (b.slotDue p) = dueOn b p := by
    rw [show b.slotDue p = fun i => (b.slots[i]?).any (fun f => f.due p) from funext (b.slotDue_eq p)]
    exact countP_range_getElem? b.slots _
  have hbeyond : ∀ i, b.slots.length ≤ i → b.slotDue p i = false := fun i hi => by
    rw [b.slotDue_eq, List.getElem?_eq_none hi]; rfl
  rw [Buffer.dueCount, Buffer.dueSlots, ← List.countP_eq_length_filter, Buffer.order]
  split
  · next k _ _ =>
    have hshift : (fun i => i + (k + 1)) = fun i => (k + 1) + i := funext (fun i => Nat.add_comm _ _)
    rw [List.countP_append, Nat.add_comm, ← List.countP_append, hshift, ← List.range_add,
      countP_range_of_le (n := b.slots.length) (by omega) hbeyond, hcount]
  · exact hcount

theorem Buffer.served_eq_left (b : Buffer) (p : Port) : b.served p = left b p := by
  unfold Buffer.served Buffer.settle left withoutPort
  dsimp only
  split <;> rfl

theorem Buffer.giveUp_eq_givenUp (b : Buffer) (p : Port) : b.giveUp p = givenUp b p := by
  rw [givenUp, ← Buffer.served_eq_left, ← Buffer.dueCount_eq_dueOn]
  rfl

/-! ### Buffers replaced -/

theorem State.updBuffer_eq_onBuffer (s : State) (j : Nat) (f : Buffer → Buffer) : s.updBuffer j f = onBuffer s j f := rfl

@[simp] theorem onBuffer_port (s : State) (j : Nat) (f : Buffer → Buffer) (p : Port) : (onBuffer s j f).port p = s.port p := rfl

theorem onBuffer_onBuffer (s : State) (j : Nat) (f g : Buffer → Buffer) :
    onBuffer (onBuffer s j f) j g = onBuffer s j (g ∘ f) := by
  simp [onBuffer, List.modify_modify_eq]

/-- A change of a buffer sees the buffer as it stands. -/
theorem onBuffer_eq_const (s : State) (j : Nat) (f : Buffer → Buffer) : onBuffer s j f = onBuffer s j (fun _ => f (s.buffer j)) := by
  have hbuffers : s.capture.buffers.modify j f = s.capture.buffers.modify j (fun _ => f (s.buffer j)) := by
    refine List.ext_getElem? (fun i => ?_)
    rw [List.getElem?_modify, List.getElem?_modify]
    split
    · next h =>
      subst h
      cases hx : s.capture.buffers[j]? with
      | none => rfl
      | some b => simp [State.buffer, List.getD, hx]
    · rfl
  rw [onBuffer, onBuffer, hbuffers]

theorem onBuffer_self (s : State) (j : Nat) : onBuffer s j (fun _ => s.buffer j) = s := by
  have hid : s.capture.buffers.modify j (fun b => b) = s.capture.buffers := List.modify_id j _
  rw [← onBuffer_eq_const s j (fun b => b), onBuffer, hid]

theorem onBuffer_buffer (s : State) (j : Nat) (f : Buffer → Buffer) (h : f Buffer.free = Buffer.free) :
    (onBuffer s j f).buffer j = f (s.buffer j) := by
  unfold State.buffer onBuffer
  dsimp only
  rw [List.getD_eq_getElem?_getD, List.getD_eq_getElem?_getD, List.getElem?_modify]
  cases s.capture.buffers[j]? with
  | none => simpa using h.symm
  | some b => simp

/-! ### The end of an attempt (R8, R14, R15, R89) -/

theorem DomainRec.startWind_eq (r : DomainRec) :
    r.startWind = { r with windTimer := some (r.windTimer.getD r.params.windTimeout) } := by
  unfold DomainRec.startWind
  split
  · next h => rw [h]; rfl
  · next n h => cases r; simp_all

/-- A change of the records of several domains in turn, each by its own record. -/
theorem foldl_updDom (f : Domain → DomainRec → DomainRec) (l : List Domain) (hl : l.Nodup) (s : State) :
    l.foldl (fun s d => s.updDom d (f d)) s =
      { s with domains := Tab.ofFn (fun d => if d ∈ l then f d (s.dom d) else s.dom d) } := by
  induction l generalizing s with
  | nil =>
    have hd : (Tab.ofFn s.dom : Tab DomainRec 12) = s.domains := Tab.ext_get (fun d => Tab.get_ofFn _ _)
    simp [hd]
  | cons e l ih =>
    obtain ⟨he, hl⟩ := List.nodup_cons.mp hl
    rw [List.foldl_cons, ih hl]
    refine congrArg (fun ds => { s with domains := ds }) (Tab.ext_get (fun d => ?_))
    rw [Tab.get_ofFn, Tab.get_ofFn, State.dom_updDom]
    by_cases hd : d = e
    · subst hd; simp [he]
    · simp [hd]

/-- The wind timer of each WINDING domain on the port runs (R89). -/
theorem State.windOnBlocked_eq (s : State) (p : Port) :
    s.windOnBlocked p = { s with domains := Tab.ofFn (fun d =>
      if s.portOf d = p ∧ (s.dom d).state = .winding then (s.dom d).startWind else s.dom d) } := by
  have hone : ∀ (t : State) (d : Domain), (if t.portOf d = p ∧ (t.dom d).state = .winding then t.updDom d DomainRec.startWind else t) =
      t.updDom d (fun r => if r.params.port = p ∧ r.state = .winding then r.startWind else r) := fun t d => by
    rw [State.updDom_eq_onDomain t d (fun r => if r.params.port = p ∧ r.state = .winding then r.startWind else r)]
    change (if (t.dom d).params.port = p ∧ (t.dom d).state = .winding then _ else _) = _
    split
    · rfl
    · rw [onDomain_self]
  unfold State.windOnBlocked State.eachDomain
  rw [show (fun (t : State) d => if t.portOf d = p ∧ (t.dom d).state = .winding then t.updDom d DomainRec.startWind else t) =
      fun t d => t.updDom d (fun r => if r.params.port = p ∧ r.state = .winding then r.startWind else r) from
        funext fun t => funext fun d => hone t d,
    foldl_updDom (fun _ r => if r.params.port = p ∧ r.state = .winding then r.startWind else r) _ (List.nodup_finRange 12)]
  simp only [List.mem_finRange, if_true]
  rfl

theorem ended_failure (u : PortUnit) : ({ u with attempt := none } : PortUnit).fail = ended u false .failure := by
  have hfull : Config.failureLimit ≤ satInc Config.failureLimit u.failures ↔ 7 ≤ u.failures := by
    simp only [satInc, Config.failureLimit]; split <;> omega
  unfold PortUnit.fail ended
  dsimp only
  by_cases h7 : 7 ≤ u.failures
  · rw [if_pos (hfull.mpr h7)]
    simp [h7, PortUnit.block, PortUnit.countFailure, satInc_counterMax]
    simp [satInc, Config.failureLimit]
  · rw [if_neg (fun h => h7 (hfull.mp h))]
    simp [h7, PortUnit.countFailure, satInc_counterMax]
    simp [satInc, Config.failureLimit]

/-- The accounting of an attempt's end, in the claims' words. -/
theorem State.attemptOver_eq_afterEnd (s : State) (p : Port) (a : Attempt) (o : TxOutcome) :
    s.attemptOver p a o = afterEnd s p a.detached o := by
  have same : ∀ b, (o = .failure → b = true) → (Tab.ofFn (endedDomain s p b o) : Tab DomainRec 12) = s.domains := fun b hb =>
    Tab.ext_get (fun d => by
      rw [Tab.get_ofFn, endedDomain, if_neg]
      · rfl
      · rintro ⟨ho, hd, -⟩
        rw [hb ho] at hd
        cases hd)
  unfold State.attemptOver State.accountEnd afterEnd
  cases o with
  | success =>
    rw [same _ (fun h => by cases h)]
    cases a.detached with
    | true => rfl
    | false => exact s.updPort_updPort p _ _
  | lostArbitration =>
    rw [same _ (fun h => by cases h)]
    cases a.detached <;> rfl
  | failure =>
    cases hd : a.detached with
    | true =>
      rw [same _ (fun _ => rfl)]
      exact s.updPort_updPort p _ _
    | false =>
      have hfail : (s.updPort p (fun u => { u with attempt := none })).updPort p PortUnit.fail =
          onPort s p (ended (s.port p) false .failure) := by
        rw [s.updPort_updPort p, ended_failure]
      simp only [State.accountFailure, Bool.false_eq_true, if_false, hfail, onPort_port_self]
      split
      · next hb =>
        rw [State.windOnBlocked_eq]
        refine congrArg (fun ds => { onPort s p (ended (s.port p) false .failure) with domains := ds })
          (Tab.ext_get (fun d => ?_))
        rw [Tab.get_ofFn, Tab.get_ofFn, endedDomain, DomainRec.startWind_eq]
        simp [hb]
        rfl
      · next hb =>
        have hds : (Tab.ofFn (endedDomain s p false .failure) : Tab DomainRec 12) = s.domains := Tab.ext_get (fun d => by
          rw [Tab.get_ofFn, endedDomain, if_neg (by simp [hb])]; rfl)
        rw [hds]
        rfl

end Sys2Proof.Machine
end

section
/-! Attempts, replays and recovery start (O56), and replay attempts end (O58). -/

namespace Sys2Proof.Machine

open Sys2Proof.Claims

variable {s t : State}

/-! ### Starts (R13, R149, R150) -/

theorem PortUnit.mayStart_iff (u : PortUnit) :
    u.mayStart = true ↔ u.active = true ∧ u.blocked = false ∧ u.attempt = none := by
  simp [PortUnit.mayStart, and_assoc]

theorem FwdEntry.onBus_eq_sentAs (e : FwdEntry) : e.onBus = sentAs e := by
  cases e with
  | frame => rfl
  | notice d i k =>
    cases k with
    | cancel => rfl
    | sleep r => cases r <;> rfl

theorem State.onBus_of_queueHead {p : Port} {a : Attempt} (ha : (s.port p).attempt = some a) (hs : a.sending = .queueHead) :
    s.onBus p = (s.port p).fwd.head?.map sentAs := by
  simp only [State.onBus, ha, hs]
  exact congrArg (fun f => (s.port p).fwd.head?.map f) (funext FwdEntry.onBus_eq_sentAs)

theorem State.onBus_of_replay {p : Port} {a : Attempt} {j slot : Nat} (ha : (s.port p).attempt = some a)
    (hs : a.sending = .replay j slot) :
    s.onBus p = ((s.buffer j).frame slot).map (fun f => (f.record.ident, f.record.data)) := by
  simp only [State.onBus, ha, hs]

theorem State.startQueue_eq (s : State) (p : Port) :
    s.startQueue p = if (s.port p).fwd = [] then s else onPort s p (begun (s.port p) .queueHead) := by
  simp only [State.startQueue, List.isEmpty_iff]
  rfl

theorem State.anyOn_activates (s : State) (ds : DomainSet) (p : Port) :
    s.anyOn ds p DomainState.activates = true ↔
      ∃ d, hasDomain ds d = true ∧ s.portOf d = p ∧ ((s.dom d).state = .awake ∨ (s.dom d).state = .winding) := by
  have hact : ∀ st : DomainState, st.activates = true ↔ st = .awake ∨ st = .winding := fun st => by
    cases st <;> simp [DomainState.activates]
  simp [State.anyOn, hact, and_assoc]

/-- The oldest CLOSED buffer pending on a port, by its place in the ring (R142, R149). -/
theorem State.oldestPending_eq_some {p : Port} {j : Nat} :
    s.oldestPending p = some j ↔
      ∃ k < 32 / 2 ^ s.capture.mode.val, ringAt s k = j ∧ pendingOn s p j ∧ ∀ m < k, ¬ pendingOn s p (ringAt s m) := by
  have hp : ∀ i, ((s.buffer i).state == .closed && hasPort (s.buffer i).pending p) = true ↔ pendingOn s p i := fun i => by
    simp [pendingOn]
  have hring : s.oldestPending p = ((List.range (32 / 2 ^ s.capture.mode.val)).find?
      (fun k => (s.buffer (ringAt s k)).state == .closed && hasPort (s.buffer (ringAt s k)).pending p)).map (ringAt s) := by
    rw [State.oldestPending, State.ring, List.find?_map]
    rfl
  rw [hring, Option.map_eq_some_iff]
  constructor
  · rintro ⟨k, hk, rfl⟩
    obtain ⟨hpend, hmem, hbefore⟩ := List.find?_range_eq_some.mp hk
    exact ⟨k, List.mem_range.mp hmem, rfl, (hp _).mp hpend, fun m hm hpm => by
      have := hbefore m hm
      rw [(hp _).mpr hpm] at this
      cases this⟩
  · rintro ⟨k, hk, rfl, hpend, hbefore⟩
    refine ⟨k, List.find?_range_eq_some.mpr ⟨(hp _).mpr hpend, List.mem_range.mpr hk, fun m hm => ?_⟩, rfl⟩
    rw [Bool.not_eq_true']
    exact Bool.eq_false_iff.mpr (fun h => hbefore m hm ((hp _).mp h))

/-- A replay is ready exactly when one may begin (R149). -/
theorem State.replayReady_eq_some {p : Port} {j : Nat} :
    s.replayReady p = some j ↔ ∃ k < 32 / 2 ^ s.capture.mode.val, ringAt s k = j ∧ replayable s p k := by
  unfold State.replayReady
  split
  · next hbusy =>
    refine iff_of_false (by simp) ?_
    rintro ⟨k, -, -, hr, ha, hb, -⟩
    simp [hr, ha, hb] at hbusy
  · next hidle =>
    have hfree : (s.port p).replay = none ∧ (s.port p).active = true ∧ (s.port p).blocked = false := by
      simpa [and_assoc] using hidle
    obtain ⟨hr, ha, hb⟩ := hfree
    split
    · next i hi =>
      obtain ⟨k, hk, rfl, hpend, hbefore⟩ := State.oldestPending_eq_some.mp hi
      constructor
      · intro h
        split at h
        · next hany =>
          exact ⟨k, hk, Option.some.inj h, hr, ha, hb, hpend, hbefore, (s.anyOn_activates _ p).mp hany⟩
        · cases h
      · rintro ⟨m, hm, rfl, -, -, -, hpend', hbefore', hany⟩
        have hmk : ringAt s m = ringAt s k := by
          have := State.oldestPending_eq_some.mpr ⟨m, hm, rfl, hpend', hbefore'⟩
          exact Option.some.inj (this.symm.trans hi)
        rw [← hmk, if_pos ((s.anyOn_activates _ p).mpr hany)]
    · next hnone =>
      refine iff_of_false (by simp) ?_
      rintro ⟨m, hm, rfl, -, -, -, hpend', hbefore', -⟩
      rw [State.oldestPending_eq_some.mpr ⟨m, hm, rfl, hpend', hbefore'⟩] at hnone
      cases hnone

/-! ### Replay attempts (R150, R152, R154, R155) -/

theorem delivered_free (p : Port) (slot : Nat) : delivered Buffer.free p slot = Buffer.free := by
  simp [delivered, Buffer.free]

@[simp] theorem afterEnd_buffer (s : State) (p : Port) (b : Bool) (o : TxOutcome) (j : Nat) :
    (afterEnd s p b o).buffer j = s.buffer j := rfl

/-- The end of a replay: the port leaves the buffer. -/
theorem State.endReplay_eq (s : State) (p : Port) (j : Nat) :
    s.endReplay p j = onPort (onBuffer s j (fun b => left b p)) p { s.port p with replay := none } := by
  rw [State.endReplay, State.updPort_eq_onPort, State.updBuffer_eq_onBuffer]
  simp only [Buffer.served_eq_left, onBuffer_port]

theorem State.abortReplay_some {p : Port} {j : Nat} (h : (s.port p).replay = some j) :
    s.abortReplay p = onPort (onBuffer s j (fun b => givenUp b p)) p (replayOver (s.port p)) := by
  simp only [State.abortReplay, h]
  rw [State.updPort_eq_onPort, State.updBuffer_eq_onBuffer]
  simp only [Buffer.giveUp_eq_givenUp, onBuffer_port, replayOver]

theorem State.abortReplay_none {p : Port} (h : (s.port p).replay = none) :
    s.abortReplay p = onPort s p (replayOver (s.port p)) := by
  simp only [State.abortReplay, h]
  rw [State.updPort_eq_onPort]
  simp only [replayOver, h]

/-- The aborts that wait for the end of an attempt, by the replay in flight (R152). -/
theorem State.applyAbort_none {p : Port} (h : (s.port p).replay = none) : s.applyAbort p = onPort s p (replayOver (s.port p)) := by
  unfold State.applyAbort
  split
  · exact State.abortReplay_none h
  · next hd =>
    have hu : replayOver (s.port p) = s.port p := by
      have hd : (s.port p).abortDue = false := by simpa using hd
      generalize s.port p = u at h hd
      cases u
      simp_all [replayOver]
    rw [hu, onPort_self]

theorem State.applyAbort_some {p : Port} {j : Nat} (h : (s.port p).replay = some j) :
    s.applyAbort p = if (s.port p).abortDue = true then
      onPort (onBuffer s j (fun b => givenUp b p)) p (replayOver (s.port p)) else s := by
  unfold State.applyAbort
  split
  · exact State.abortReplay_some h
  · rfl

/-- The buffer that an attempt sent from, once a success has delivered its frame (R150). -/
def attempted (b : Buffer) (p : Port) (slot : Nat) (o : TxOutcome) : Buffer :=
  if o = .success then delivered b p slot else b

theorem State.deliver_buffer (s : State) (p : Port) (j slot : Nat) :
    (s.updBuffer j (fun b => b.deliver p slot)).buffer j = attempted (s.buffer j) p slot .success :=
  onBuffer_buffer s j (fun b => delivered b p slot) (delivered_free p slot)

/-- A frame of a buffer with no replay in flight on the port: delivered by a success, and skipped otherwise. -/
theorem State.endReplayAttempt_released {p : Port} {j slot : Nat} (h : (s.port p).replay ≠ some j) (o : TxOutcome) :
    s.endReplayAttempt p j slot o = onBuffer s j (fun _ =>
      if o = .success then attempted (s.buffer j) p slot o
      else { attempted (s.buffer j) p slot o with skipped := counted (attempted (s.buffer j) p slot o).skipped }) := by
  have skipped : ∀ f : Buffer → Buffer, s.updBuffer j f = onBuffer s j (fun _ => f (s.buffer j)) := onBuffer_eq_const s j
  cases o with
  | success =>
    have hd : ((s.updBuffer j (fun b => b.deliver p slot)).port p).replay ≠ some j := h
    simp only [State.endReplayAttempt, if_true]
    rw [if_neg (fun hc => hd hc.1), skipped]
    rfl
  | lostArbitration =>
    simp only [State.endReplayAttempt, if_neg h]
    rw [skipped]
    rfl
  | failure =>
    simp only [State.endReplayAttempt, if_neg h]
    rw [skipped]
    rfl

/-- A frame of the buffer whose replay is in flight stays due, unless it is delivered. -/
theorem State.endReplayAttempt_due {p : Port} {j slot : Nat} (h : (s.port p).replay = some j) {o : TxOutcome}
    (hdue : ¬ (o = .success ∧ (attempted (s.buffer j) p slot o).dueSlots p = [])) :
    s.endReplayAttempt p j slot o = onBuffer s j (fun _ => attempted (s.buffer j) p slot o) := by
  cases o with
  | success =>
    simp only [State.endReplayAttempt]
    rw [if_neg (fun hc => hdue ⟨rfl, s.deliver_buffer p j slot ▸ hc.2⟩), State.updBuffer_eq_onBuffer, onBuffer_eq_const]
    rfl
  | lostArbitration => simp [State.endReplayAttempt, h, attempted, onBuffer_self]
  | failure => simp [State.endReplayAttempt, h, attempted, onBuffer_self]

/-- The delivery of the last frame due ends the replay. -/
theorem State.endReplayAttempt_last {p : Port} {j slot : Nat} (h : (s.port p).replay = some j)
    (hdue : (attempted (s.buffer j) p slot .success).dueSlots p = []) :
    s.endReplayAttempt p j slot .success =
      onPort (onBuffer s j (fun _ => left (attempted (s.buffer j) p slot .success) p)) p { s.port p with replay := none } := by
  simp only [State.endReplayAttempt]
  rw [if_pos ⟨h, s.deliver_buffer p j slot ▸ hdue⟩, State.endReplay_eq, State.updBuffer_eq_onBuffer, onBuffer_onBuffer,
    onBuffer_eq_const]
  rfl

end Sys2Proof.Machine

open Sys2Proof Sys2Proof.Machine Sys2Proof.Claims

/-- Settles O56: starts by what is due first, replays by the oldest buffer pending, and recovery by its guard. -/
theorem attemptsReplaysAndRecoveryStart : Obligations.AttemptsReplaysAndRecoveryStart := by
  refine ⟨fun s p => ?_, fun s p => ⟨fun k hk hr => ?_, fun hnone => ?_⟩, fun s p => ?_⟩
  · by_cases hm : (s.port p).mayStart = true
    · have hfree := (PortUnit.mayStart_iff _).mp hm
      cases hr : (s.port p).replay with
      | none =>
        refine ⟨s.startQueue p, by simp [exec, execTransmissionStart, hm, hr], ?_⟩
        dsimp only
        rw [if_pos hfree, hr]
        refine ⟨s.startQueue_eq p, fun e he => ?_⟩
        have hne : (s.port p).fwd ≠ [] := fun h => by simp [h] at he
        rw [s.startQueue_eq, if_neg hne, State.onBus_of_queueHead (by rw [onPort_port_self]; rfl) rfl, onPort_port_self]
        exact congrArg (Option.map sentAs) (Option.mem_def.mp he)
      | some j =>
        cases hd : (s.buffer j).dueSlots p with
        | nil =>
          refine ⟨(s.endReplay p j).startQueue p, by simp [exec, execTransmissionStart, hm, hr, hd], ?_⟩
          dsimp only
          rw [if_pos hfree, hr]
          simp [hd]
        | cons slot rest =>
          refine ⟨onPort s p (begun (s.port p) (.replay j slot)), by simp [exec, execTransmissionStart, hm, hr, hd]; rfl, ?_⟩
          dsimp only
          rw [if_pos hfree, hr]
          intro slot' hslot
          obtain rfl : slot = slot' := by simpa [hd] using hslot
          refine ⟨rfl, fun f hf => ?_⟩
          rw [State.onBus_of_replay (by rw [onPort_port_self]; rfl) rfl]
          exact congrArg (Option.map _) (Option.mem_def.mp hf)
    · refine ⟨s, by simp [exec, execTransmissionStart, hm], ?_⟩
      dsimp only
      rw [if_neg (fun h => hm ((PortUnit.mayStart_iff _).mpr h))]
  · have hready := State.replayReady_eq_some.mpr ⟨k, hk, rfl, hr⟩
    exact ⟨s.updPort p (fun u => { u with replay := some (ringAt s k) }), by simp only [exec, execReplayStart, hready], rfl⟩
  · have hready : s.replayReady p = none := by
      cases h : s.replayReady p with
      | none => rfl
      | some j =>
        obtain ⟨k, hk, -, hr⟩ := State.replayReady_eq_some.mp h
        exact absurd hr (hnone k hk)
    exact ⟨s, by simp only [exec, execReplayStart, hready], rfl⟩
  · by_cases hb : (s.port p).blocked = true ∧ (s.port p).recovery.isSome = true
    · refine ⟨s.updPort p PortUnit.leaveBlocked, by simp [exec, execRecoveryTimerExpiry, hb], ?_⟩
      dsimp only
      rw [if_pos hb, State.updPort_eq_onPort, PortUnit.leaveBlocked, if_pos hb.1]
    · exact ⟨s, by simp only [exec, execRecoveryTimerExpiry, if_neg hb], by dsimp only; rw [if_neg hb]⟩

/-- Settles O58, by the replay in flight and whether it is of the frame's buffer. -/
theorem replayAttemptsEnd : Obligations.ReplayAttemptsEnd := by
  intro s p o a j slot ha hs
  have hexec : exec (.transmissionEnd p o) s =
      .next (((afterEnd s p a.detached o).endReplayAttempt p j slot o).applyAbort p) := by
    simp only [exec, execTransmissionEnd, ha, State.endAttempt, hs]
    rw [← State.attemptOver, State.attemptOver_eq_afterEnd]
  refine ⟨_, hexec, ?_⟩
  dsimp only
  rw [← afterEnd_buffer s p a.detached o j, ← attempted]
  generalize afterEnd s p a.detached o = z
  cases hr : (z.port p).replay with
  | none =>
    have hne : (z.port p).replay ≠ some j := by rw [hr]; simp
    dsimp only
    rw [State.endReplayAttempt_released hne, State.applyAbort_none (s := onBuffer z j _) hr]
    rfl
  | some i =>
    dsimp only
    by_cases hij : i = j
    · subst hij
      rw [if_pos rfl]
      split
      · next hlast =>
        obtain ⟨rfl, hdue⟩ := hlast
        rw [State.endReplayAttempt_last hr hdue, State.applyAbort_none (by rw [onPort_port_self])]
        simp [replayOver]
      · next hlast =>
        rw [State.endReplayAttempt_due hr hlast, State.applyAbort_some (s := onBuffer z i _) (j := i) hr, onBuffer_onBuffer]
        split
        · next hdue => exact if_pos hdue
        · next hdue => exact if_neg hdue
    · have hne : (z.port p).replay ≠ some j := by rw [hr]; simpa using hij
      rw [if_neg hij, State.endReplayAttempt_released hne, State.applyAbort_some (s := onBuffer z j _) (j := i) hr]
      split
      · next hdue => exact if_pos hdue
      · next hdue => exact if_neg hdue

end

section
/-! Notices in the claims' words, and the ends of attempts of the forward queue (O57). -/

namespace Sys2Proof.Machine

open Sys2Proof.Claims

variable {s t : State} {d : Domain}

/-! ### Offers and withdrawals (R12, R88, R89, R91) -/

theorem State.noticeOffer_eq_offerable (s : State) (d : Domain) : s.noticeOffer d = offerable s d := rfl

/-- A notice offered for a domain without an entry at its port stands at the tail. -/
theorem State.noticed_eq (h : (s.port (s.portOf d)).noticeOf d = none) (i : Ident) (k : NoticeKind) (n : NoticeField) :
    (s.updPort (s.portOf d) (fun u => u.offerNotice d i k)).updDom d (fun r => { r with notice := n }) = noticed s d i k n := by
  have hfwd : (s.port (s.portOf d)).offerNotice d i k =
      { s.port (s.portOf d) with fwd := (s.port (s.portOf d)).fwd ++ [.notice d i k] } := by
    rw [PortUnit.offerNotice, PortUnit.withoutNotice_eq_self h]
  rw [State.updPort_eq_onPort, hfwd]
  rfl

theorem State.startWind_notice_eq (s : State) (d : Domain) (n : NoticeField) :
    s.updDom d (fun r => { r.startWind with notice := n }) =
      onDomain s d { s.dom d with
        notice := n
        windTimer := some ((s.dom d).windTimer.getD (s.dom d).params.windTimeout) } := by
  rw [State.updDom_eq_onDomain, DomainRec.startWind_eq]

theorem State.offerSleep_eq (h : (s.port (s.portOf d)).noticeOf d = none) : s.offerSleep d = sleepOffered s d := by
  unfold State.offerSleep sleepOffered
  rw [State.noticeOffer_eq_offerable]
  cases offerable s d with
  | none => exact s.startWind_notice_eq d .none
  | some i =>
    cases (s.dom d).sleepReason with
    | none => exact s.startWind_notice_eq d .none
    | some r => exact State.noticed_eq h i (.sleep r) .sleepQueued

theorem State.offerCancel_eq (h : (s.port (s.portOf d)).noticeOf d = none) : s.offerCancel d = cancelOffered s d := by
  unfold State.offerCancel cancelOffered
  rw [State.noticeOffer_eq_offerable]
  cases offerable s d with
  | none => rfl
  | some i => exact State.noticed_eq h i .cancel .cancelQueued

/-- The table of R91, by the kind, the report and the state. -/
theorem State.settleNotice_eq (h : (s.port (s.portOf d)).noticeOf d = none) (k : NoticeKind) (b : Bool) :
    s.settleNotice d k b = settledAs s d (k != .cancel) b := by
  unfold State.settleNotice settledAs
  rw [State.offerSleep_eq h, State.offerCancel_eq h, State.startWind_notice_eq]
  cases k <;> cases b <;> cases (s.dom d).state <;> rfl

theorem PortUnit.sendsNotice_eq (u : PortUnit) (d : Domain) : sendsNotice u d = u.sendingNoticeOf d := by
  unfold sendsNotice PortUnit.sendingNoticeOf PortUnit.sendingHead
  have hnotice : ∀ e : FwdEntry, noticeFor d e = e.isNoticeOf d := fun e => by cases e <;> rfl
  cases u.attempt <;> cases u.fwd.head? <;> simp [hnotice]

theorem FwdEntry.noticeFor_eq (e : FwdEntry) (d : Domain) : noticeFor d e = e.isNoticeOf d := by cases e <;> rfl

/-- The withdrawal of an entry that stands in the queue of the domain's port. -/
theorem State.withdrawNotice_standing {k : NoticeKind} (hk : (s.port (s.portOf d)).noticeOf d = some k)
    (hn : (s.dom d).notice = queuedAs k) : s.withdrawNotice d = withdrawn s d (k != .cancel) := by
  unfold State.withdrawNotice withdrawn
  dsimp only
  rw [hn, queuedAs_isWithdrawing, if_neg (by decide), hk, PortUnit.sendsNotice_eq]
  dsimp only
  split
  · next hs =>
    rw [State.updDom_eq_onDomain]
    cases k <;> rfl
  · next hs =>
    have hs : (s.port (s.portOf d)).sendingNoticeOf d = false := by simpa using hs
    have hfilter : (s.port (s.portOf d)).withoutNotice d =
        (s.port (s.portOf d)).fwd.filter (fun e => !noticeFor d e) := by
      rw [PortUnit.withoutNotice_eq_filter hs]
      exact List.filter_congr (fun e _ => by rw [FwdEntry.noticeFor_eq])
    rw [State.updPort_eq_onPort, hfilter]
    refine State.settleNotice_eq ?_ k false
    have hp : (onPort s (s.portOf d) { s.port (s.portOf d) with
        fwd := (s.port (s.portOf d)).fwd.filter (fun e => !noticeFor d e) }).portOf d = s.portOf d := rfl
    rw [hp, onPort_port_self, ← hfilter]
    exact (PortUnit.removes_withoutNotice hs).absent

/-- The withdrawal of a domain's notice, by its notice field. -/
theorem State.withdrawNotice_eq (h : s.EntryFits d) :
    s.withdrawNotice d = match (s.dom d).notice with
      | .none => s
      | .sleepQueued => withdrawn s d true
      | .sleepSent => onDomain s d { s.dom d with notice := .none }
      | .cancelQueued => withdrawn s d false
      | .withdrawingSleep => s
      | .withdrawingCancel => s := by
  cases h with
  | absent none field =>
    have hw : s.withdrawNotice d = onDomain s d { s.dom d with notice := .none } := by
      have hnot : (s.dom d).notice.isWithdrawing = false := by rcases field with h | h <;> rw [h] <;> rfl
      simp only [State.withdrawNotice, hnot, none]
      rfl
    rw [hw]
    rcases field with hf | hf
    · rw [hf]
      dsimp only
      rw [show ({ s.dom d with notice := .none } : DomainRec) = s.dom d by rw [← hf], onDomain_self]
    · rw [hf]
  | standing k some _ field =>
    rw [State.withdrawNotice_standing some field, field]
    cases k <;> rfl
  | leaving p k _ _ field _ =>
    have hw : s.withdrawNotice d = s := by simp [State.withdrawNotice, field]
    rw [hw, field]
    cases k <;> rfl

/-! ### The end of a queue attempt (R12, R14, R89, R90, R91, R172) -/

/-- The management reset, evaluated. -/
theorem State.managementReset_eq (s : State) : s.managementReset = afterManagementReset s := by
  obtain ⟨m, _, _, _, _, _, _, _, _, _, _, _, n, cs⟩ := s
  rfl

theorem State.dropHead_eq_dequeued (s : State) (p : Port) : s.dropHead p = dequeued s p := by
  rw [State.dropHead, State.updPort_eq_onPort, dequeued]
  simp only [List.drop_one]

theorem afterEnd_fwd (s : State) (p : Port) (b : Bool) (o : TxOutcome) : ((afterEnd s p b o).port p).fwd = (s.port p).fwd := by
  have hp : (afterEnd s p b o).port p = ended (s.port p) b o := Tab.get_set_self _ _ _
  rw [hp]
  cases o <;> cases b <;> rfl

theorem afterEnd_success_dom (s : State) (p : Port) (b : Bool) (d : Domain) : (afterEnd s p b .success).dom d = s.dom d := by
  have hd : (afterEnd s p b .success).dom d = endedDomain s p b .success d := Tab.get_ofFn _ _
  rw [hd, endedDomain, if_neg (by simp)]

theorem State.noticeSent_eq (s : State) (d : Domain) (k : NoticeKind) :
    s.noticeSent d k = onDomain s d
      (match k with
        | .sleep _ =>
          { s.dom d with
            notice := .sleepSent
            windTimer :=
              if (s.dom d).state = .winding then some ((s.dom d).windTimer.getD (s.dom d).params.windTimeout)
              else (s.dom d).windTimer }
        | .cancel => { s.dom d with notice := .none }) := by
  cases k with
  | cancel => rfl
  | sleep r =>
    simp only [State.noticeSent]
    rw [State.updDom_eq_onDomain, DomainRec.startWind_eq]
    split <;> rfl

/-- A notice whose withdrawal was asked for leaves the queue, whatever the outcome. -/
theorem State.endQueueAttempt_removal (s : State) {p : Port} {i : Ident} {k : NoticeKind} {rest : List FwdEntry} (o : TxOutcome)
    (hfwd : (s.port p).fwd = .notice d i k :: rest) :
    s.endQueueAttempt p true o = (s.dropHead p).settleNotice d k (o == .success) := by
  unfold State.endQueueAttempt
  rw [hfwd]
  cases o <;> rfl

end Sys2Proof.Machine

open Sys2Proof Sys2Proof.Machine Sys2Proof.Claims

/-- Settles O57, by the oldest entry, the outcome and whether a removal was asked for. -/
theorem queueAttemptsEnd : Obligations.QueueAttemptsEnd := by
  refine ⟨fun s p o ha => ⟨s, by simp only [exec, execTransmissionEnd, ha], rfl⟩, fun s p o a e rest ha hs hfwd => ?_⟩
  have hexec : exec (.transmissionEnd p o) s = .next ((afterEnd s p a.detached o).endQueueAttempt p a.removal o) := by
    simp only [exec, execTransmissionEnd, ha, State.endAttempt, hs]
    rw [← State.attemptOver, State.attemptOver_eq_afterEnd]
  refine ⟨_, hexec, ?_⟩
  dsimp only
  have hz : ((afterEnd s p a.detached o).port p).fwd = e :: rest := (afterEnd_fwd s p a.detached o).trans hfwd
  cases e with
  | frame i data isReset =>
    dsimp only
    unfold State.endQueueAttempt
    rw [hz]
    cases o with
    | success =>
      rw [if_pos rfl]
      simp only [State.entrySent, Bool.and_eq_true]
      split
      · next hreset => exact (if_pos hreset).trans ((State.managementReset_eq _).trans rfl)
      · next hreset => exact (if_neg hreset).trans (State.dropHead_eq_dequeued _ p)
    | lostArbitration => rfl
    | failure => rfl
  | notice d i k =>
    dsimp only
    split
    · next hr =>
      intro hn
      have but := ((State.noticesFit_iff.mp hn).1.removed (a := a) o hfwd).absent
      rw [State.attemptOver_eq_afterEnd] at but
      rw [hr, State.endQueueAttempt_removal _ o hz, State.settleNotice_eq (but _), State.dropHead_eq_dequeued]
    · next hr =>
      have hr : a.removal = false := by simpa using hr
      unfold State.endQueueAttempt
      rw [hz, hr]
      cases o with
      | success =>
        rw [if_pos rfl, ← State.dropHead_eq_dequeued, ← afterEnd_success_dom s p a.detached d]
        exact (State.noticeSent_eq _ d k).trans (by cases k <;> rfl)
      | lostArbitration => rfl
      | failure => rfl

end

section
/-! Domains that leave power or the wait queue, and domains that wind down, in the claims' words. -/

namespace Sys2Proof.Machine

open Sys2Proof.Claims

variable {s t : State} {d : Domain}

/-! ### A port that listens (R8, R152) -/

theorem PortUnit.sendingReplay_eq (u : PortUnit) : u.sendingReplay = u.attempt.any (fun a => a.sending != .queueHead) := by
  unfold PortUnit.sendingReplay
  cases u.attempt with
  | none => rfl
  | some a => cases hs : a.sending <;> simp [hs]

/-- A change to LISTEN aborts a replay in flight, at once unless one of its frames is in transmission. -/
theorem State.portListen_eq (s : State) (p : Port) : s.portListen p = afterListen s p := by
  have hlisten : (s.updPort p PortUnit.toListen).port p = listening (s.port p) := State.port_updPort_self _ _ _
  unfold State.portListen afterListen
  dsimp only
  rw [hlisten, PortUnit.sendingReplay_eq, State.updPort_updPort]
  cases hr : (listening (s.port p)).replay with
  | none => rfl
  | some j =>
    dsimp only
    split
    · rw [← hr]
      rfl
    · simp only [State.abortReplay, hlisten, hr]
      rw [State.updPort_eq_onPort, State.updBuffer_eq_onBuffer, onBuffer_port, hlisten,
        show (fun b : Buffer => b.giveUp p) = fun b => givenUp b p from funext (fun b => b.giveUp_eq_givenUp p)]
      exact congrArg (fun t => onBuffer t j (fun b => givenUp b p)) (onPort_onPort s p _ _)

theorem State.enterState_eq (s : State) (d : Domain) (st : DomainState) :
    s.enterState d st = (onDomain s d { s.dom d with state := st, enable := st.powered }).rederive (s.portOf d) := rfl

/-- A domain of the port other than `d` keeps it ACTIVE, or B is ACTIVE in RUN. -/
theorem State.derivedActive_off (ha : s.AttachmentsFit) {r : DomainRec} (hport : r.params.port = s.portOf d)
    (hr : r.state.activates = false) :
    (onDomain s d r).derivedActive (s.portOf d) = true ↔ activeWithout s (s.portOf d) d := by
  have hportOf : ∀ e, (onDomain s d r).portOf e = s.portOf e := fun e => by
    rw [State.portOf, onDomain_dom]
    split
    · next he => subst he; exact hport
    · rfl
  have ht : (onDomain s d r).AttachmentsFit := fun e => by rw [hportOf]; exact ha e
  have hactivates : ∀ st : DomainState, st.activates = true ↔ st = .awake ∨ st = .winding := fun st => by cases st <;> decide
  rw [State.derivedActive_iff ht]
  refine or_congr Iff.rfl (exists_congr (fun e => ?_))
  rw [hportOf, onDomain_dom]
  by_cases he : e = d
  · rw [if_pos he, hr]
    simp [he]
  · simp [he, hactivates]

/-- The state `t` with the port of domain `d` changed to LISTEN where, by `s`, no other domain keeps it ACTIVE. -/
def State.stilled (s : State) (d : Domain) (t : State) : State :=
  if (s.port (s.portOf d)).active = true ∧ ¬activeWithout s (s.portOf d) d then afterListen t (s.portOf d) else t

/-- The port of a domain that is neither AWAKE nor WINDING any more. -/
theorem State.rederive_off (ha : s.AttachmentsFit) (hp : s.PortsFollow) {r : DomainRec} (hport : r.params.port = s.portOf d)
    (hr : r.state.activates = false) :
    (onDomain s d r).rederive (s.portOf d) = s.stilled d (onDomain s d r) := by
  have hkept := State.derivedActive_off ha hport hr
  have hstood : activeWithout s (s.portOf d) d → (s.port (s.portOf d)).active = true := fun h => by
    rw [hp, State.derivedActive_iff ha]
    refine h.imp id (fun ⟨e, _, hat, hst⟩ => ⟨e, hat, ?_⟩)
    rcases hst with h | h <;> rw [h] <;> rfl
  have hunit : (onDomain s d r).port (s.portOf d) = s.port (s.portOf d) := rfl
  unfold State.rederive State.stilled
  rw [hunit, State.portListen_eq]
  by_cases hw : activeWithout s (s.portOf d) d
  · rw [if_pos ((hkept.mpr hw).trans (hstood hw).symm), if_neg (fun h => h.2 hw)]
  · have hoff := Bool.eq_false_iff.mpr (fun h => hw (hkept.mp h))
    rw [hoff]
    by_cases hact : (s.port (s.portOf d)).active = true
    · rw [if_neg (by simp [hact]), if_neg (by decide), if_pos ⟨hact, hw⟩]
    · rw [if_pos (by simpa using hact), if_neg (fun h => hact h.1)]

/-! ### Slots and the Capture Store (R98, R107, R153) -/

/-- A domain leaves the wait queue and gives up its slot. -/
theorem State.freed_eq (s : State) (d : Domain) :
    (s.updSlots (fun a => a.leaveQueue d)).releaseSlot d =
      { onDomain s d { s.dom d with slotHeld := false } with
        slots := { s.slots with
          holders := s.slots.holders.set d none
          queue := s.slots.queue.filter (fun e => e.domain != d) } } := rfl

/-- The Slot Arbiter and the ports do not meet. -/
theorem afterListen_freed (s : State) (p : Port) (d : Domain) :
    ((afterListen s p).updSlots (fun a => a.leaveQueue d)).releaseSlot d =
      afterListen ((s.updSlots (fun a => a.leaveQueue d)).releaseSlot d) p := by
  have hport : ((s.updSlots (fun a => a.leaveQueue d)).releaseSlot d).port p = s.port p := rfl
  unfold afterListen
  dsimp only
  rw [hport]
  cases (listening (s.port p)).replay with
  | none => rfl
  | some j => dsimp only; split <;> rfl

theorem State.stilled_freed (s : State) (d : Domain) (t : State) :
    ((s.stilled d t).updSlots (fun a => a.leaveQueue d)).releaseSlot d =
      s.stilled d ((t.updSlots (fun a => a.leaveQueue d)).releaseSlot d) := by
  unfold State.stilled
  split
  · exact afterListen_freed t (s.portOf d) d
  · rfl

theorem State.stilled_dom (s : State) (d : Domain) (t : State) (e : Domain) : (s.stilled d t).dom e = t.dom e := by
  unfold State.stilled
  split
  · exact State.dom_of_domains (by rw [← State.portListen_eq]; simp) e
  · rfl

/-- The report of R153 in the claims' words. -/
theorem State.domainDown_eq (s : State) (d : Domain) : s.domainDown d = removedPending s d := by
  have hstanding : ∀ st : DomainState, st.standing = false ↔ st = .asleep ∨ st = .fault := fun st => by cases st <;> decide
  have happlies : ∀ (j : Nat) (b : Buffer), s.removalApplies d (s.portOf d) j b = true ↔
      (b.state = .post ∨ b.state = .closed) ∧ hasDomain b.woken d = true ∧ hasPort b.pending (s.portOf d) = true ∧
        (s.port (s.portOf d)).replay ≠ some j ∧
        ∀ e : Domain, hasDomain b.woken e = true → s.portOf e = s.portOf d →
          (s.dom e).state = .asleep ∨ (s.dom e).state = .fault := fun j b => by
    simp only [State.removalApplies, State.anyOn, Bool.and_eq_true, Bool.or_eq_true, beq_iff_eq, bne_iff_ne, ne_eq,
      Bool.not_eq_true', List.any_eq_false, List.mem_finRange, true_implies, not_and, Bool.not_eq_true, and_assoc, hstanding]
  unfold State.domainDown removedPending
  simp only [← happlies, Buffer.giveUp_eq_givenUp]

/-! ### Switching off (R76, R81, R92, R95 to R97) -/

/-- The record of a domain that has gone to ASLEEP or FAULT. -/
def DomainRec.down (r : DomainRec) (st : DomainState) : DomainRec :=
  { r with state := st, enable := false, wakeClass := none, slotHeld := false }

/-- The state of a domain that has left power or the wait queue and its slot, before its notice is withdrawn. -/
def State.downed (s : State) (d : Domain) (r : DomainRec) : State :=
  s.stilled d
    { onDomain s d r with
      slots := { s.slots with
        holders := s.slots.holders.set d none
        queue := s.slots.queue.filter (fun e => e.domain != d) } }

theorem State.downed_dom (s : State) (d : Domain) (r : DomainRec) : (s.downed d r).dom d = r :=
  (s.stilled_dom d _ d).trans (onDomain_dom_self s d r)

theorem State.released_eq (ha : s.AttachmentsFit) (hp : s.PortsFollow) (d : Domain) {st : DomainState}
    (hst : st = .asleep ∨ st = .fault) {f : DomainRec → DomainRec} (hf : (f (s.dom d)).params.port = s.portOf d) :
    (((s.updDom d (fun r => { f r with wakeClass := none })).enterState d st).updSlots
      (fun a => a.leaveQueue d)).releaseSlot d = s.downed d ((f (s.dom d)).down st) := by
  have hpowered : st.powered = false ∧ st.activates = false := by rcases hst with rfl | rfl <;> decide
  have attached : (onDomain s d { f (s.dom d) with wakeClass := none }).portOf d = s.portOf d := by
    rw [State.portOf, onDomain_dom_self]; exact hf
  have entered : (s.updDom d (fun r => { f r with wakeClass := none })).enterState d st =
      s.stilled d (onDomain s d { f (s.dom d) with state := st, enable := false, wakeClass := none }) := by
    rw [State.updDom_eq_onDomain, State.enterState_eq, attached, onDomain_dom_self, onDomain_onDomain, hpowered.1]
    exact State.rederive_off ha hp hf hpowered.2
  rw [entered, State.stilled_freed, State.freed_eq, onDomain_dom_self, onDomain_onDomain]
  rfl

/-- A change of one record that keeps the notice field and the attachment. -/
theorem State.Noticed.record (h : s.Noticed) {f : DomainRec → DomainRec} (hn : (f (s.dom d)).notice = (s.dom d).notice)
    (hp : (f (s.dom d)).params.port = s.portOf d) : (s.updDom d f).Noticed :=
  h.carry (fun _ => .refl _)
    (fun e => by
      rw [State.dom_updDom]
      split
      · next he => subst he; exact hn
      · rfl)
    (fun e => .inl (by
      rw [State.portOf, State.dom_updDom]
      split
      · next he => subst he; exact hp
      · rfl))

/-- A domain that leaves power or the wait queue, in the claims' words. -/
theorem State.switchOff_eq (ha : s.AttachmentsFit) (hp : s.PortsFollow) (hn : s.Noticed) (d : Domain) {st : DomainState}
    (hst : st = .asleep ∨ st = .fault) {f : DomainRec → DomainRec} (hnotice : (f (s.dom d)).notice = (s.dom d).notice)
    (hport : (f (s.dom d)).params.port = s.portOf d) : s.switchOff d st f = offTo s d ((f (s.dom d)).down st) := by
  have entered := (hn.record (f := fun r => { f r with wakeClass := none }) hnotice hport).enterState d st
  have freed : ((((s.updDom d (fun r => { f r with wakeClass := none })).enterState d st).updSlots
      (fun a => a.leaveQueue d)).updSlots (fun a => { a with holders := a.holders.set d none })).Noticed := entered.aside rfl rfl
  have fits := (freed.updDom d (f := fun r => { r with slotHeld := false }) rfl rfl).entries d
  rw [← State.releaseSlot, State.released_eq ha hp d hst hport] at fits
  unfold State.switchOff
  dsimp only
  rw [State.released_eq ha hp d hst hport, State.domainDown_eq, State.withdrawNotice_eq fits, State.downed_dom, offTo]
  refine congrArg (fun t => removedPending t d) ?_
  cases ((f (s.dom d)).down st).notice <;> rfl

/-- A change of the record before a switching off is part of it. -/
theorem State.switchOff_updDom (s : State) (d : Domain) (st : DomainState) (g f : DomainRec → DomainRec) :
    (s.updDom d g).switchOff d st f = s.switchOff d st (fun r => f (g r)) := by
  have hupd : (s.updDom d g).updDom d (fun r => { f r with wakeClass := none }) =
      s.updDom d (fun r => { f (g r) with wakeClass := none }) := by
    rw [State.updDom_eq_onDomain, State.updDom_eq_onDomain, onDomain_dom_self, onDomain_onDomain]
    rfl
  unfold State.switchOff
  rw [hupd]

/-! ### What a switching off does to the record, the slots and the queues, in any state -/

/-- A withdrawal touches the wind timer of a WINDING domain alone. -/
theorem State.offerCancel_windTimer (s : State) (d : Domain) : ((s.offerCancel d).dom d).windTimer = (s.dom d).windTimer := by
  unfold State.offerCancel
  split
  · rw [State.dom_updDom_self]
    rfl
  · rw [State.dom_updDom_self]

theorem State.settleNotice_windTimer (h : (s.dom d).state ≠ .winding) (k : NoticeKind) (b : Bool) :
    ((s.settleNotice d k b).dom d).windTimer = (s.dom d).windTimer := by
  unfold State.settleNotice
  split
  · exact absurd ‹_› h
  · exact absurd ‹_› h
  · exact s.offerCancel_windTimer d
  · exact s.offerCancel_windTimer d
  · rw [State.dom_updDom_self]

theorem State.withdrawNotice_windTimer (h : (s.dom d).state ≠ .winding) :
    ((s.withdrawNotice d).dom d).windTimer = (s.dom d).windTimer := by
  unfold State.withdrawNotice
  dsimp only
  split
  · rfl
  · split
    · rw [State.dom_updDom_self]
    · split
      · rw [State.dom_updDom_self]; rfl
      · exact State.settleNotice_windTimer (s := s.updPort _ _) h _ _

/-- The record of a domain switched off, but for its notice field. -/
theorem State.switchOff_dom_self (s : State) (d : Domain) {st : DomainState} (hst : st = .asleep ∨ st = .fault)
    (f : DomainRec → DomainRec) : ∃ n, (s.switchOff d st f).dom d = { (f (s.dom d)).down st with notice := n } := by
  have hpowered : st.powered = false ∧ st ≠ .winding := by rcases hst with rfl | rfl <;> decide
  unfold State.switchOff
  dsimp only
  have hd := State.enterState_dom (s.updDom d (fun r => { f r with wakeClass := none })) d d st
  rw [if_pos rfl, State.dom_updDom_self, hpowered.1] at hd
  generalize (s.updDom d (fun r => { f r with wakeClass := none })).enterState d st = t at hd ⊢
  rw [State.dom_of_domains (State.domainDown_domains _ _)]
  have hfreed : ((t.updSlots (fun a => a.leaveQueue d)).releaseSlot d).dom d = (f (s.dom d)).down st := by
    rw [State.freed_eq]
    refine (onDomain_dom_self _ _ _).trans ?_
    rw [hd]
    rfl
  have hframe := ((t.updSlots (fun a => a.leaveQueue d)).releaseSlot d).noticeFrame_withdrawNotice d
  have hwind := State.withdrawNotice_windTimer (s := (t.updSlots (fun a => a.leaveQueue d)).releaseSlot d) (d := d)
    (by rw [hfreed]; exact hpowered.2)
  have := hframe.dom d
  rw [hwind, hfreed] at this
  exact ⟨_, this⟩

theorem State.switchOff_slots (s : State) (d : Domain) (st : DomainState) (f : DomainRec → DomainRec) :
    (s.switchOff d st f).slots = { s.slots with
      holders := s.slots.holders.set d none
      queue := s.slots.queue.filter (fun e => e.domain != d) } := by
  unfold State.switchOff
  dsimp only
  rw [State.domainDown_slots, State.withdrawNotice_slots]
  have hslots : ((s.updDom d (fun r => { f r with wakeClass := none })).enterState d st).slots = s.slots := by simp
  rw [State.freed_eq, hslots]

theorem State.switchOff_holder (s : State) (d : Domain) (st : DomainState) (f : DomainRec → DomainRec) :
    (s.switchOff d st f).slots.holders.get d = none := by
  rw [State.switchOff_slots]; exact Tab.get_set_self _ _ _

theorem State.switchOff_queue (s : State) (d : Domain) (st : DomainState) (f : DomainRec → DomainRec) :
    ∀ e ∈ (s.switchOff d st f).slots.queue, e.domain ≠ d := by
  rw [State.switchOff_slots]
  intro e he
  simpa using (List.mem_filter.mp he).2

theorem State.rederive_fwd (s : State) (p q : Port) : ((s.rederive p).port q).fwd = (s.port q).fwd := by
  have keeps : ∀ u : PortUnit, u.fwd = (s.port p).fwd → ((onPort s p u).port q).fwd = (s.port q).fwd := fun u hu => by
    rw [onPort_port]
    split
    · next hq => rw [hu, hq]
    · rfl
  unfold State.rederive
  split
  · rfl
  · split
    · exact keeps _ rfl
    · rw [State.portListen_eq]
      unfold afterListen
      dsimp only
      split
      · exact keeps _ rfl
      · split <;> exact keeps _ rfl

theorem State.enterState_fwd (s : State) (d : Domain) (st : DomainState) (q : Port) :
    ((s.enterState d st).port q).fwd = (s.port q).fwd := by
  rw [State.enterState_eq, State.rederive_fwd]
  rfl

theorem State.switchOff_frames (s : State) (d : Domain) (st : DomainState) (f : DomainRec → DomainRec) (q : Port) :
    ((s.switchOff d st f).port q).frameEntries = (s.port q).frameEntries := by
  have hfwd := State.enterState_fwd (s.updDom d (fun r => { f r with wakeClass := none })) d st q
  unfold State.switchOff
  dsimp only
  generalize (s.updDom d (fun r => { f r with wakeClass := none })).enterState d st = t at hfwd ⊢
  refine (State.NoticeFrame.frames (State.noticeFrame_withdrawNotice _ d) q).trans ?_
  exact congrArg (fun l => l.countP FwdEntry.isFrame) hfwd

/-! ### Winding down (R88) -/

theorem State.derivedActive_same (hport : ∀ e, t.portOf e = s.portOf e)
    (hst : ∀ e, (t.dom e).state.activates = (s.dom e).state.activates) (mode : t.mode = s.mode) (p : Port) :
    t.derivedActive p = s.derivedActive p := by
  simp only [State.derivedActive, hport, hst, mode]

/-- The record of a domain that goes from AWAKE to WINDING. -/
def DomainRec.wound (r : DomainRec) (reason : SleepReason) : DomainRec :=
  { r with state := .winding, enable := true, idleTimer := .stopped, minAwakeTimer := none, sleepReason := some reason }

/-- The port of a domain that goes from AWAKE to WINDING stays as it is. -/
theorem State.wound_eq (hp : s.PortsFollow) (hst : (s.dom d).state = .awake) (reason : SleepReason) :
    (s.updDom d (fun r => { r with idleTimer := .stopped, minAwakeTimer := none, sleepReason := some reason })).enterState d
      .winding = onDomain s d ((s.dom d).wound reason) := by
  have hdom := onDomain_dom s d (r := (s.dom d).wound reason)
  have hderived : (onDomain s d ((s.dom d).wound reason)).derivedActive (s.portOf d) = s.derivedActive (s.portOf d) := by
    refine State.derivedActive_same (s := s) (t := onDomain s d ((s.dom d).wound reason)) (fun e => ?_) (fun e => ?_) rfl _
    · rw [State.portOf, hdom]
      split
      · next he => subst he; rfl
      · rfl
    · rw [hdom]
      split
      · next he => subst he; rw [hst]; rfl
      · rfl
  rw [State.updDom_eq_onDomain, State.enterState_eq, onDomain_dom_self, onDomain_onDomain, State.portOf, onDomain_dom_self]
  exact if_pos (hderived.trans (hp (s.portOf d)).symm)

/-- A domain that winds down, in the claims' words. -/
theorem State.enterWinding_eq (hp : s.PortsFollow) (hn : s.Noticed) (hf : s.FieldsFit) (hst : (s.dom d).state = .awake)
    (reason : SleepReason) : s.enterWinding d reason = woundDown s d reason := by
  have noticed : (onDomain s d ((s.dom d).wound reason)).Noticed :=
    hn.updDom d (f := fun r => r.wound reason) rfl rfl
  have fits := noticed.entries d
  have hnotice : ((onDomain s d ((s.dom d).wound reason)).dom d).notice = (s.dom d).notice := by rw [onDomain_dom_self]; rfl
  have hoffer : offerable (onDomain s d ((s.dom d).wound reason)) d = offerable s d := by
    unfold offerable
    rw [State.portOf, onDomain_dom_self]
    rfl
  have hfield := hf d
  rw [hst] at hfield
  rw [State.enterWinding, State.wound_eq hp hst]
  unfold State.noticeAtWinding woundDown
  rw [State.noticeOffer_eq_offerable, hoffer, hnotice, State.updDom_eq_onDomain, DomainRec.startWind_eq]
  obtain ⟨r, hr⟩ : ∃ r, (s.dom d).wound reason = r := ⟨_, rfl⟩
  rw [hr] at fits hnotice ⊢
  unfold DomainRec.wound at hr
  dsimp only
  rw [hr]
  cases hk : (s.dom d).notice with
  | none =>
    have absent : ∀ p, ((onDomain s d r).port p).noticeOf d = none := by
      cases fits with
      | absent none _ => exact none
      | standing k _ _ field => rw [hnotice, hk] at field; cases k <;> cases field
      | leaving p k _ _ field _ => rw [hnotice, hk] at field; cases k <;> cases field
    cases (offerable s d).isSome <;> exact State.offerSleep_eq (absent _)
  | sleepQueued => rw [hk] at hfield; cases hfield
  | sleepSent => rw [hk] at hfield; cases hfield
  | cancelQueued =>
    cases (offerable s d).isSome with
    | false => rfl
    | true => exact (State.withdrawNotice_eq fits).trans (by rw [hnotice, hk]; rfl)
  | withdrawingSleep => cases (offerable s d).isSome <;> rfl
  | withdrawingCancel => cases (offerable s d).isSome <;> rfl

end Sys2Proof.Machine
end

section
/-! Requests and expiries that take a domain out of power (O37, O54, O33). -/

namespace Sys2Proof.Machine

open Sys2Proof.Claims

variable {s t : State} {d : Domain}

/-! ### A request taken, and its response (R3, R164) -/

theorem taken_port (s : State) (p : Port) :
    (taken s).port p = if p = Port.B then heardUnit (s.port Port.B) else s.port p := onPort_port s Port.B p _

theorem State.AttachmentsFit.taken (h : s.AttachmentsFit) : (taken s).AttachmentsFit := h

theorem State.PortsFollow.taken (h : s.PortsFollow) : (taken s).PortsFollow := fun p => by
  have hactive : ((Claims.taken s).port p).active = (s.port p).active := by
    rw [taken_port]
    split
    · next hp => subst hp; rfl
    · rfl
  exact hactive.trans (h p)

theorem State.Noticed.taken (h : s.Noticed) : (taken s).Noticed :=
  h.carry (fun p => by
      rw [taken_port]
      split
      · next hp => subst hp; exact .of_same rfl rfl
      · exact .refl _)
    (fun _ => rfl) (fun _ => .inl rfl)

/-- Two states that differ in one domain, the slots, the ports and the captures alone, with the frame entries of every port. -/
structure State.Spares (s : State) (d : Domain) (t : State) : Prop where
  fixed   : t.fixed = s.fixed
  account : t.account = s.account
  causes  : t.causes = s.causes
  others  : ∀ e, e ≠ d → t.dom e = s.dom e
  frames  : ∀ q, (t.port q).frameEntries = (s.port q).frameEntries

theorem State.spares_refl (s : State) (d : Domain) : s.Spares d s := ⟨rfl, rfl, rfl, fun _ _ => rfl, fun _ => rfl⟩

theorem State.spares_switchOff (s : State) (d : Domain) (st : DomainState) (f : DomainRec → DomainRec) :
    s.Spares d (s.switchOff d st f) :=
  ⟨by simp, by simp, by simp, fun _ h => s.switchOff_dom_ne h st f, s.switchOff_frames d st f⟩

theorem State.spares_enterWinding (s : State) (d : Domain) (r : SleepReason) : s.Spares d (s.enterWinding d r) :=
  ⟨by simp, by simp, by simp, fun _ h => s.enterWinding_dom_ne h r, fun q => by
    rw [State.enterWinding, (State.noticeFrame_noticeAtWinding _ d).frames q]
    exact congrArg (fun l => l.countP FwdEntry.isFrame) (State.enterState_fwd _ d .winding q)⟩

/-- What the answer of a request that acts on one domain leaves as it was. -/
theorem State.Spares.answered (h : (taken s).Spares d t) (bytes : List Byte) :
    (∀ e : Domain, e ≠ d → (answered t bytes).dom e = s.dom e) ∧ (answered t bytes).account = s.account ∧
      (answered t bytes).causes = s.causes ∧ (answered t bytes).engine = s.engine ∧
      (answered t bytes).lineUnit = s.lineUnit ∧ (answered t bytes).timerUnit = s.timerUnit :=
  ⟨h.others, h.account, h.causes, State.engine_of_fixed (s := taken s) (t := t) h.fixed,
    State.lineUnit_of_fixed (s := taken s) (t := t) h.fixed, State.timerUnit_of_fixed (s := taken s) (t := t) h.fixed⟩

/-- The response of a request that acts on one domain finds a place at the tail while B holds fewer than 24 frame entries. -/
theorem State.Spares.getLast (h : (taken s).Spares d t) (hroom : (s.port Port.B).frameEntries < 24) (bytes : List Byte) :
    ((Claims.answered t bytes).port Port.B).fwd.getLast? = some (.frame s.responseId bytes false) := by
  have hstrap : t.responseId = s.responseId := by
    simp only [State.responseId, State.requestId, State.management_of_fixed h.fixed]
    rfl
  have hplace : (t.port Port.B).frameEntries < 24 := by rw [h.frames, taken_port, if_pos rfl]; exact hroom
  rw [Claims.answered, onPort_port_self, offered, if_pos hplace, hstrap]
  exact List.getLast?_concat

/-- A request that switches a domain off, in the claims' words. -/
theorem taken_switchOff_eq (ha : s.AttachmentsFit) (hp : s.PortsFollow) (hn : s.NoticesFit) {f : DomainRec → DomainRec}
    (hnotice : (f (s.dom d)).notice = (s.dom d).notice) (hport : (f (s.dom d)).params.port = s.portOf d) :
    (taken s).switchOff d .asleep f = offTo (taken s) d ((f (s.dom d)).down .asleep) :=
  State.switchOff_eq ha.taken hp.taken (State.noticesFit_iff.mp hn).1.taken d (.inl rfl) hnotice hport

/-- The record of a domain that goes to WINDING, but for its notice field and its wind timer. -/
theorem State.enterWinding_dom_self (s : State) (d : Domain) (reason : SleepReason) :
    ∃ n w, (s.enterWinding d reason).dom d = { (s.dom d).wound reason with notice := n, windTimer := w } := by
  have hd := State.enterState_dom
    (s.updDom d (fun r => { r with idleTimer := .stopped, minAwakeTimer := none, sleepReason := some reason })) d d .winding
  rw [if_pos rfl, State.dom_updDom_self] at hd
  have hframe := (State.noticeFrame_noticeAtWinding ((s.updDom d (fun r =>
    { r with idleTimer := .stopped, minAwakeTimer := none, sleepReason := some reason })).enterState d .winding) d).dom d
  rw [hd] at hframe
  exact ⟨_, _, hframe⟩

theorem asDomain_val (d : Domain) : asDomain d.val = some d := by simp [asDomain]

theorem asDomain_byte (d : Domain) : asDomain (BitVec.ofNat 8 d.val : Byte).toNat = some d := by
  rw [BitVec.toNat_ofNat, Nat.mod_eq_of_lt (by omega), asDomain_val]

theorem asDomain_of_le {n : Nat} (h : 12 ≤ n) : asDomain n = none := by simp [asDomain, Nat.not_lt.mpr h]

theorem State.writeCause_eq_noted (s : State) (d : Domain) (c : Cause) (k : WakeClass) (o : WakeOutcome) (j : Option Nat) :
    s.writeCause d c k o j = noted s d c k o j := rfl

/-- The record, the slot and the place in the wait queue of a domain that a request has switched off. -/
theorem answered_switchOff (s : State) (d : Domain) (f : DomainRec → DomainRec) (bytes : List Byte) :
    (∃ n, (answered (s.switchOff d .asleep f) bytes).dom d = { (f (s.dom d)).down .asleep with notice := n }) ∧
      (answered (s.switchOff d .asleep f) bytes).slots.holders.get d = none ∧
      ∀ e ∈ (answered (s.switchOff d .asleep f) bytes).slots.queue, e.domain ≠ d :=
  ⟨s.switchOff_dom_self d (.inl rfl) f, s.switchOff_holder d _ f, s.switchOff_queue d _ f⟩

/-- The record of a domain that a request has sent to WINDING. -/
theorem answered_enterWinding (s : State) (d : Domain) (reason : SleepReason) (bytes : List Byte) :
    (∃ n w, (answered (s.enterWinding d reason) bytes).dom d =
      { (s.dom d).wound reason with notice := n, windTimer := w }) ∧
      (answered (s.enterWinding d reason) bytes).slots = s.slots :=
  ⟨s.enterWinding_dom_self d reason, s.enterWinding_slots d reason⟩

/-! ### Domain Sleep (R95) -/

section
variable {args : List Byte} (hd : asDomain (argByte args 2).toNat = some d)
include hd

theorem answerDomainSleep_still (h : (s.dom d).state = .asleep ∨ (s.dom d).state = .winding) :
    answerDomainSleep args s = (s, .bare .ok) := by
  rcases h with h | h <;> simp only [answerDomainSleep, hd, h]

theorem answerDomainSleep_off (h : (s.dom d).state = .queued ∨ (s.dom d).state = .powering) :
    answerDomainSleep args s = (s.switchOff d .asleep DomainRec.stopReady, .bare .ok) := by
  rcases h with h | h <;> simp only [answerDomainSleep, hd, h]

theorem answerDomainSleep_awake (h : (s.dom d).state = .awake) :
    answerDomainSleep args s = (s.enterWinding d .mgmt, .bare .ok) := by
  simp only [answerDomainSleep, hd, h]

theorem answerDomainSleep_fault (h : (s.dom d).state = .fault) : answerDomainSleep args s = (s, .bare .state) := by
  simp only [answerDomainSleep, hd, h]

/-! ### Domain Clear Fault (R96) -/

theorem answerDomainClearFault_fault (h : (s.dom d).state = .fault) :
    answerDomainClearFault args s = (s.clearFault d, .bare .ok) := by
  simp only [answerDomainClearFault, hd, h, if_true]

theorem answerDomainClearFault_other (h : (s.dom d).state ≠ .fault) : answerDomainClearFault args s = (s, .bare .state) := by
  simp only [answerDomainClearFault, hd, h, if_false]

end

end Sys2Proof.Machine

open Sys2Proof Sys2Proof.Machine Sys2Proof.Claims

/-- Settles O37, by the state of the domain. -/
theorem domainSleepAndClearFaultActByTheState : Obligations.DomainSleepAndClearFaultActByTheState := by
  have sleeps : ∀ (s : State) (tag b : Byte), Executes s → exec (.domainSleep tag [b]) s = .next
      (answered (answerDomainSleep [b] (taken s)).1 (responseBytes 0x1B tag (answerDomainSleep [b] (taken s)).2)) :=
    fun s tag b hs => (takeRequest_next s 0x1B tag [b] manageDomainSleep hs.1 hs.2).trans
      (congrArg _ (State.manage_heard (by simp [frameArgs])))
  have clears : ∀ (s : State) (tag b : Byte), Executes s → exec (.domainClearFault tag [b]) s = .next
      (answered (answerDomainClearFault [b] (taken s)).1 (responseBytes 0x1C tag (answerDomainClearFault [b] (taken s)).2)) :=
    fun s tag b hs => (takeRequest_next s 0x1C tag [b] manageDomainClearFault hs.1 hs.2).trans
      (congrArg _ (State.manage_heard (by simp [frameArgs])))
  refine ⟨fun s tag d hs => ⟨_, sleeps s tag _ hs, ?_⟩, fun s tag d hs => ⟨_, clears s tag _ hs, ?_⟩, fun s tag b hs hb =>
    ⟨⟨_, sleeps s tag b hs, ?_⟩, ⟨_, clears s tag b hs, ?_⟩⟩⟩
  · have hd : asDomain (argByte [(BitVec.ofNat 8 d.val : Byte)] 2).toNat = some d := asDomain_byte d
    have states : ((s.dom d).state = .asleep ∨ (s.dom d).state = .winding) ∨
        ((s.dom d).state = .queued ∨ (s.dom d).state = .powering) ∨ (s.dom d).state = .awake ∨ (s.dom d).state = .fault := by
      cases (s.dom d).state <;> simp
    rcases states with still | off | awake | fault
    · rw [answerDomainSleep_still (s := taken s) hd still]
      have spares := (taken s).spares_refl d
      exact ⟨fun _ => rfl, fun h => by simp [h] at still, fun h => by rcases h with h | h <;> simp [h] at still,
        fun h => by simp [h] at still, fun _ room => spares.getLast room _, spares.answered _⟩
    · rw [answerDomainSleep_off (s := taken s) hd off]
      have spares := (taken s).spares_switchOff d .asleep DomainRec.stopReady
      have full : s.AttachmentsFit → s.PortsFollow → s.NoticesFit → _ := fun ha hp hn =>
        taken_switchOff_eq (d := d) (f := DomainRec.stopReady) ha hp hn rfl rfl
      obtain ⟨⟨n, hrec⟩, hholder, hqueue⟩ := answered_switchOff (taken s) d DomainRec.stopReady (responseBytes 0x1B tag (.bare .ok))
      have hlast := fun room => spares.getLast room (responseBytes 0x1B tag (.bare .ok))
      have hsame := spares.answered (responseBytes 0x1B tag (.bare .ok))
      dsimp only
      refine ⟨fun h => by rcases h with h | h <;> simp [h] at off, fun h => by simp [h] at off, fun _ => ?_,
        fun h => by simp [h] at off, fun _ => hlast, hsame⟩
      rw [hrec]
      exact ⟨rfl, rfl, rfl, rfl, rfl, hholder, hqueue, fun ha hp hn => congrArg (fun t => answered t _) (full ha hp hn)⟩
    · rw [answerDomainSleep_awake (s := taken s) hd awake]
      have spares := (taken s).spares_enterWinding d .mgmt
      have full : s.PortsFollow → s.NoticesFit → _ := fun hp hn =>
        State.enterWinding_eq (d := d) hp.taken (State.noticesFit_iff.mp hn).1.taken (State.noticesFit_iff.mp hn).2 awake .mgmt
      obtain ⟨⟨n, w, hrec⟩, hslots⟩ := answered_enterWinding (taken s) d .mgmt (responseBytes 0x1B tag (.bare .ok))
      have hlast := fun room => spares.getLast room (responseBytes 0x1B tag (.bare .ok))
      have hsame := spares.answered (responseBytes 0x1B tag (.bare .ok))
      dsimp only
      refine ⟨fun h => by simp [awake] at h, fun h => by simp [awake] at h, fun h => by simp [awake] at h, fun _ => ?_,
        fun _ => hlast, hsame⟩
      rw [hrec]
      exact ⟨fun hp hn => congrArg (fun t => answered t _) (full hp hn), rfl, rfl, rfl, rfl, rfl, rfl, hslots⟩
    · rw [answerDomainSleep_fault (s := taken s) hd fault]
      have spares := (taken s).spares_refl d
      exact ⟨fun h => by simp [fault] at h, fun _ => rfl, fun h => by simp [fault] at h,
        fun h => by simp [fault] at h, fun h => absurd fault h, spares.answered _⟩
  · have hd : asDomain (argByte [(BitVec.ofNat 8 d.val : Byte)] 2).toNat = some d := asDomain_byte d
    by_cases fault : (s.dom d).state = .fault
    · rw [answerDomainClearFault_fault (s := taken s) hd fault]
      have spares := (taken s).spares_switchOff d .asleep (fun r => { r with retriesUsed := 0 })
      have full : s.AttachmentsFit → s.PortsFollow → s.NoticesFit → _ := fun ha hp hn =>
        taken_switchOff_eq (d := d) (f := fun r => { r with retriesUsed := 0 }) ha hp hn rfl rfl
      obtain ⟨⟨n, hrec⟩, -⟩ :=
        answered_switchOff (taken s) d (fun r => { r with retriesUsed := 0 }) (responseBytes 0x1C tag (.bare .ok))
      have hlast := fun room => spares.getLast room (responseBytes 0x1C tag (.bare .ok))
      have hsame := spares.answered (responseBytes 0x1C tag (.bare .ok))
      refine ⟨fun h => absurd fault h, fun _ => ?_⟩
      dsimp only [State.clearFault]
      rw [hrec]
      exact ⟨rfl, rfl, rfl, rfl, rfl, fun ha hp hn => congrArg (fun t => answered t _) (full ha hp hn), hlast, hsame⟩
    · rw [answerDomainClearFault_other (s := taken s) hd fault]
      exact ⟨fun _ => rfl, fun h => absurd h fault⟩
  · have : asDomain (argByte [b] 2).toNat = none := asDomain_of_le hb
    simp only [answerDomainSleep, this]
    rfl
  · have : asDomain (argByte [b] 2).toNat = none := asDomain_of_le hb
    simp only [answerDomainClearFault, this]
    rfl
end

section
/-! Expiries of the ready and wind timers (O54), and the enabled flag (O33). -/

namespace Sys2Proof.Machine

open Sys2Proof.Claims

variable {s t : State} {d : Domain}

/-! ### A domain that has become ready (R5, R79, R85, R106) -/

theorem DomainRec.effectiveReady_eq (r : DomainRec) :
    r.effectiveReady = if r.params.readyMode = .timed ∨ r.params.announceId = none then .timed else .announce := by
  unfold DomainRec.effectiveReady
  cases r.params.readyMode <;> cases r.params.announceId <;> rfl

/-- A port that is ACTIVE once its state is derived leaves the captures alone. -/
theorem State.rederive_capture {p : Port} (h : s.derivedActive p = true) : (s.rederive p).capture = s.capture := by
  unfold State.rederive
  rw [h, if_pos rfl]
  split <;> rfl

/-- The record of a domain that has become ready. -/
def DomainRec.risen (r : DomainRec) : DomainRec :=
  { r with
    state := .awake
    enable := true
    readyTimer := none
    minAwakeTimer := if r.params.minAwake = 0 then none else some r.params.minAwake
    idleTimer := .running r.params.idleTimeout }

theorem State.risen_eq (s : State) (d : Domain) :
    (s.updDom d (fun r => { r with readyTimer := none })).enterAwake d =
      (onDomain s d (s.dom d).risen).rederive (s.portOf d) := by
  have hport : (onDomain (onDomain s d { s.dom d with readyTimer := none }) d
      { s.dom d with
        readyTimer := none
        minAwakeTimer := if (s.dom d).params.minAwake = 0 then none else some (s.dom d).params.minAwake
        idleTimer := .running (s.dom d).params.idleTimeout }).portOf d = s.portOf d := by
    rw [State.portOf, onDomain_dom_self]; rfl
  rw [State.enterAwake, State.updDom_eq_onDomain, State.updDom_eq_onDomain, State.enterState_eq, onDomain_dom_self,
    onDomain_dom_self, onDomain_onDomain, onDomain_onDomain]
  exact congrArg _ hport

theorem State.risen_dom (s : State) (d e : Domain) :
    ((onDomain s d (s.dom d).risen).rederive (s.portOf d)).dom e = if e = d then (s.dom d).risen else s.dom e := by
  rw [State.dom_of_domains (State.rederive_domains _ _), onDomain_dom]

/-- An AWAKE domain keeps its port ACTIVE. -/
theorem State.risen_derivedActive (ha : s.AttachmentsFit) (d : Domain) :
    (onDomain s d (s.dom d).risen).derivedActive (s.portOf d) = true := by
  have hportOf : ∀ e, (onDomain s d (s.dom d).risen).portOf e = s.portOf e := fun e => by
    rw [State.portOf, onDomain_dom]
    split
    · next he => subst he; rfl
    · rfl
  rw [State.derivedActive_iff (fun e => by rw [hportOf]; exact ha e)]
  exact .inr ⟨d, hportOf d, by rw [onDomain_dom_self]; rfl⟩

/-- The Slot Arbiter's part of a domain that has become ready (R106). -/
theorem State.slotReady_holder (h : s.slots.holders.get d = some .powering) :
    ((s.dom d).params.slotHold = 0 →
      (s.slotReady d).slots.holders.get d = none ∧ ((s.slotReady d).dom d).slotHeld = false) ∧
    ((s.dom d).params.slotHold ≠ 0 →
      (s.slotReady d).slots.holders.get d = some (.hold (s.dom d).params.slotHold) ∧
        ((s.slotReady d).dom d).slotHeld = (s.dom d).slotHeld) := by
  simp only [State.slotReady, h]
  refine ⟨fun h0 => ?_, fun h0 => ?_⟩
  · rw [if_pos h0]
    exact ⟨Tab.get_set_self _ _ _, by rw [State.releaseSlot, State.dom_updDom_self]⟩
  · rw [if_neg h0]
    exact ⟨Tab.get_set_self _ _ _, rfl⟩

/-- What else it leaves as it was. -/
theorem State.slotReady_keeps (s : State) (d : Domain) :
    (∃ b, (s.slotReady d).dom d = { s.dom d with slotHeld := b }) ∧ (s.slotReady d).slots.queue = s.slots.queue ∧
      ∀ e : Domain, e ≠ d → (s.slotReady d).dom e = s.dom e ∧ (s.slotReady d).slots.holders.get e = s.slots.holders.get e := by
  unfold State.slotReady
  split
  · split
    · exact ⟨⟨false, by rw [State.releaseSlot, State.dom_updDom_self]; rfl⟩, rfl,
        fun e he => ⟨State.dom_updDom_ne _ _ he, Tab.get_set_ne _ _ he⟩⟩
    · exact ⟨⟨_, rfl⟩, rfl, fun e he => ⟨rfl, Tab.get_set_ne _ _ he⟩⟩
  · exact ⟨⟨_, rfl⟩, rfl, fun e he => ⟨rfl, rfl⟩⟩

/-- A domain that has become ready (O54's first case). -/
theorem State.becomeReady_spec (s : State) (d : Domain) :
    (∃ b, (s.becomeReady d).dom d = { (s.dom d).risen with slotHeld := b }) ∧
      (s.slots.holders.get d = some .powering →
        ((s.dom d).params.slotHold = 0 →
          (s.becomeReady d).slots.holders.get d = none ∧ ((s.becomeReady d).dom d).slotHeld = false) ∧
        ((s.dom d).params.slotHold ≠ 0 →
          (s.becomeReady d).slots.holders.get d = some (.hold (s.dom d).params.slotHold) ∧
            ((s.becomeReady d).dom d).slotHeld = (s.dom d).slotHeld)) ∧
      (s.AttachmentsFit → ((s.becomeReady d).port (s.portOf d)).active = true ∧ (s.becomeReady d).capture = s.capture) ∧
      (s.becomeReady d).slots.queue = s.slots.queue ∧
      ∀ e : Domain, e ≠ d →
        (s.becomeReady d).dom e = s.dom e ∧ (s.becomeReady d).slots.holders.get e = s.slots.holders.get e := by
  have hdom := s.risen_dom d
  have hslots : ((onDomain s d (s.dom d).risen).rederive (s.portOf d)).slots = s.slots := by
    rw [State.rederive_slots]; rfl
  have hactive := (onDomain s d (s.dom d).risen).rederive_active (s.portOf d) (s.portOf d)
  have hcapture : s.AttachmentsFit → ((onDomain s d (s.dom d).risen).rederive (s.portOf d)).capture = s.capture :=
    fun ha => State.rederive_capture (State.risen_derivedActive ha d)
  rw [if_pos rfl] at hactive
  rw [State.becomeReady, State.risen_eq]
  generalize (onDomain s d (s.dom d).risen).rederive (s.portOf d) = w at hdom hslots hactive hcapture ⊢
  obtain ⟨⟨b, hself⟩, hqueue, hothers⟩ := w.slotReady_keeps d
  have hd : w.dom d = (s.dom d).risen := by rw [hdom, if_pos rfl]
  have hholder := State.slotReady_holder (s := w) (d := d)
  rw [hslots, hd] at hholder
  refine ⟨⟨b, by rw [hself, hd]⟩, hholder, fun ha => ⟨?_, ?_⟩, by rw [hqueue, hslots], fun e he => ?_⟩
  · rw [State.port, State.slotReady_ports]
    exact hactive.trans (State.risen_derivedActive ha d)
  · rw [State.slotReady_capture, hcapture ha]
  · obtain ⟨hsame, hheld⟩ := hothers e he
    rw [hsame, hheld, hdom, if_neg he, hslots]
    exact ⟨rfl, rfl⟩

/-- What a switching off changes, in any state. -/
theorem State.switchOff_spec (s : State) (d : Domain) {st : DomainState} (hst : st = .asleep ∨ st = .fault)
    (f : DomainRec → DomainRec) :
    (∃ n, (s.switchOff d st f).dom d = { (f (s.dom d)).down st with notice := n }) ∧
      (s.switchOff d st f).slots.holders.get d = none ∧ (∀ e : Domain, e ≠ d → (s.switchOff d st f).dom e = s.dom e) ∧
      (s.switchOff d st f).causes = s.causes ∧ (s.switchOff d st f).account = s.account ∧
      (s.switchOff d st f).engine = s.engine :=
  ⟨s.switchOff_dom_self d hst f, s.switchOff_holder d st f, fun _ h => s.switchOff_dom_ne h st f, by simp, by simp,
    State.engine_of_fixed (by simp)⟩

/-- The FAILED record touches the Cause Queue alone. -/
theorem State.recordFailure_dom (s : State) (d e : Domain) : (s.recordFailure d).dom e = s.dom e := by
  unfold State.recordFailure; split <;> rfl

theorem State.recordFailure_account (s : State) (d : Domain) : (s.recordFailure d).account = s.account := by
  unfold State.recordFailure; split <;> rfl

theorem State.recordFailure_engine (s : State) (d : Domain) : (s.recordFailure d).engine = s.engine := by
  unfold State.recordFailure; split <;> rfl

end Sys2Proof.Machine

open Sys2Proof Sys2Proof.Machine Sys2Proof.Claims

/-- Settles O54, by the ready mode and the retries left. -/
theorem readyAndWindTimersExpire : Obligations.ReadyAndWindTimersExpire := by
  refine ⟨fun s d => ?_, fun s d => ?_⟩
  · by_cases hrun : (s.dom d).state = .powering ∧ (s.dom d).readyTimer.isSome = true
    · refine ⟨s.readyExpires d, if_pos hrun, ?_⟩
      dsimp only
      rw [if_pos hrun]
      unfold State.readyExpires
      rw [DomainRec.effectiveReady_eq]
      by_cases hmode : (s.dom d).params.readyMode = .timed ∨ (s.dom d).params.announceId = none
      · rw [if_pos hmode, if_pos hmode]
        obtain ⟨⟨b, hrec⟩, hholder, hport, hqueue, hothers⟩ := s.becomeReady_spec d
        have hframe : (s.becomeReady d).causes = s.causes ∧ (s.becomeReady d).account = s.account ∧
            (s.becomeReady d).engine = s.engine := ⟨by simp, by simp, State.engine_of_fixed (by simp)⟩
        generalize s.becomeReady d = t at hrec hholder hport hqueue hothers hframe ⊢
        dsimp only
        refine ⟨?_, ?_, ?_, ?_, ?_, ?_, hholder, hport, hqueue, hothers, hframe⟩ <;> rw [hrec] <;> rfl
      · rw [if_neg hmode, if_neg hmode]
        dsimp only
        by_cases hleft : (s.dom d).retriesUsed < (s.dom d).params.readyRetries
        · rw [if_pos hleft, if_pos hleft]
          rfl
        · rw [if_neg hleft, if_neg hleft]
          have hfail : ∀ c ∈ (s.dom d).wakeClass, s.recordFailure d = noted s d .ready c .failed none := fun c hc => by
            rw [State.recordFailure, Option.mem_def.mp hc]
            exact s.writeCause_eq_noted d .ready c .failed none
          have full : ∀ c : WakeClass, s.AttachmentsFit → s.PortsFollow → s.NoticesFit →
              (noted s d .ready c .failed none).switchOff d .fault DomainRec.stopReady = _ := fun c ha hp hn =>
            State.switchOff_eq (s := noted s d .ready c .failed none) (f := DomainRec.stopReady) ha hp
              ((State.noticesFit_iff.mp hn).1.aside rfl rfl) d (.inr rfl) rfl rfl
          obtain ⟨⟨n, hrec⟩, hholder, hothers, hcauses, hrest⟩ :=
            (s.recordFailure d).switchOff_spec d (.inr rfl) DomainRec.stopReady
          rw [s.recordFailure_account d, s.recordFailure_engine d] at hrest
          rw [s.recordFailure_dom d d] at hrec
          simp only [s.recordFailure_dom d] at hothers
          rw [State.readyFails]
          refine ⟨?_, ?_, ?_, ?_, ?_, ?_, ?_, hholder, fun c hc => ⟨?_, fun ha hp hn => ?_⟩, hothers, hrest⟩
          case refine_8 => rw [hcauses, hfail c hc]
          case refine_9 => rw [hfail c hc]; exact full c ha hp hn
          all_goals rw [hrec]; rfl
    · exact ⟨s, if_neg hrun, by dsimp only; rw [if_neg hrun]⟩
  · by_cases hrun : (s.dom d).state = .winding ∧ (s.dom d).windTimer.isSome = true
    · refine ⟨_, if_pos hrun, ?_⟩
      dsimp only
      rw [if_pos hrun, State.windingAsleep, State.switchOff_updDom]
      obtain ⟨⟨n, hrec⟩, hholder, hothers, hframe⟩ := s.switchOff_spec d (.inl rfl)
        (fun r => DomainRec.stopWinding { r with forcedSleep := satInc Config.counterMax r.forcedSleep })
      have full : s.AttachmentsFit → s.PortsFollow → s.NoticesFit → _ := fun ha hp hn =>
        State.switchOff_eq (f := fun r => DomainRec.stopWinding { r with forcedSleep := satInc Config.counterMax r.forcedSleep })
          ha hp (State.noticesFit_iff.mp hn).1 d (.inl rfl) rfl rfl
      generalize s.switchOff d .asleep _ = t at hrec hholder hothers hframe full ⊢
      refine ⟨?_, ?_, ?_, ?_, ?_, ?_, ?_, ?_, full, hholder, hothers, hframe⟩ <;> rw [hrec] <;> rfl
    · exact ⟨s, if_neg hrun, by dsimp only; rw [if_neg hrun]⟩

end

section
/-! The enabled flag of a domain (O33). -/

namespace Sys2Proof.Machine

open Sys2Proof.Claims

variable {s t : State} {d : Domain}

/-- The parameters with the enabled flag written. -/
def DomainParams.flagged (q : DomainParams) (b : Bool) : DomainParams := { q with enabled := b }

/-- The record of a domain disabled by a change of its parameters to `q`, before it leaves its state. -/
def DomainRec.disabled (q : DomainParams) (r : DomainRec) : DomainRec := DomainRec.stopAll { r with params := q }

/-- Set Domain Parameter writes the enabled flag (R74, R76). -/
theorem answerSetDomainParameter_flag (s : State) (d : Domain) (b : Bool) (m : BitVec 16) :
    answerSetDomainParameter (paramArgs d 0 (if b = true then 1 else 0) m) s =
      (s.setParams d (s.dom d).params ((s.dom d).params.flagged b), .okay (paramBytes ((s.dom d).params.flagged b) 0)) := by
  have hd : asDomain (argByte (paramArgs d 0 (if b = true then 1 else 0) m) 2).toNat = some d := asDomain_byte d
  have hcode : (argByte (paramArgs d 0 (if b = true then 1 else 0) m) 3).toNat = 0 := rfl
  have hvalue : argWord (paramArgs d 0 (if b = true then 1 else 0) m) 4 = if b = true then 1 else 0 := by
    cases b <;> simp [argWord, argByte, paramArgs, two]
  have hwrite : ∀ w, paramWrite d (s.dom d).params 0 (if b = true then 1 else 0) w = some ((s.dom d).params.flagged b) :=
    fun w => by cases b <;> rfl
  simp only [answerSetDomainParameter, hd, hcode, hvalue, hwrite]
  rfl

theorem State.updTokens_self (s : State) (d : Domain) : s.updTokens d (fun t => t) = s := by
  have htokens : s.account.tokens.modify d (fun t => t) = s.account.tokens :=
    Tab.ext_get (fun e => by rw [Tab.get_modify]; split <;> rfl)
  rw [State.updTokens, State.updAccount, htokens]

/-- A change of parameters that keeps the token cap touches no token. -/
theorem State.setParams_flag (s : State) (d : Domain) (b : Bool) :
    s.setParams d (s.dom d).params ((s.dom d).params.flagged b) =
      if ((s.dom d).params.enabled && !b) = true then
        s.switchOff d .asleep (DomainRec.disabled ((s.dom d).params.flagged b))
      else onDomain s d { s.dom d with params := (s.dom d).params.flagged b } := by
  have hcap : ∀ (mode : Mode) (t : TokenRec), t.capChange (s.dom d).params.tokenCap ((s.dom d).params.flagged b).tokenCap
      ((s.dom d).params.flagged b).refill mode = t := fun mode t => by
    simp [TokenRec.capChange, DomainParams.flagged]
  simp only [State.setParams, hcap, State.updTokens_self]
  rw [State.disable, State.switchOff_updDom]
  rfl

theorem paramBytes_flag (q : DomainParams) (b : Bool) :
    paramBytes (q.flagged b) 0 = [0, 0, if b = true then 1 else 0, 0, 0] := by
  have hmask : paramMask (q.flagged b) 0 = 0 := by unfold paramMask; split <;> simp_all
  rw [paramBytes, hmask]
  cases b <;> simp [oneByte, beBytes_two, two, paramValue, DomainParams.flagged, boolBit]

end Sys2Proof.Machine

open Sys2Proof Sys2Proof.Machine Sys2Proof.Claims

/-- Settles O33: the flag is the only parameter written, and a change to no switches the domain off. -/
theorem disablingADomainPutsItAsleep : Obligations.DisablingADomainPutsItAsleep := by
  intro s tag d m hs
  have hexec : ∀ v : BitVec 16, exec (.setDomainParameter tag (paramArgs d 0 v m)) s = .next
      (answered (answerSetDomainParameter (paramArgs d 0 v m) (taken s)).1
        (responseBytes 0x18 tag (answerSetDomainParameter (paramArgs d 0 v m) (taken s)).2)) := fun v =>
    (takeRequest_next s 0x18 tag (paramArgs d 0 v m) manageSetDomainParameter hs.1 hs.2).trans
      (congrArg _ (State.manage_heard (by simp [frameArgs, paramArgs, two])))
  refine ⟨fun henabled => ⟨_, hexec 0, ?_⟩, ⟨_, hexec 1, ?_⟩⟩
  · rw [show (0 : BitVec 16) = if false = true then 1 else 0 from rfl, answerSetDomainParameter_flag, State.setParams_flag]
    have hoff : (((taken s).dom d).params.enabled && !false) = true := by
      rw [show ((taken s).dom d).params.enabled = true from henabled]; rfl
    rw [if_pos hoff, paramBytes_flag]
    have hrecord : DomainRec.disabled (((taken s).dom d).params.flagged false) ((taken s).dom d) = { s.dom d with
        params := { (s.dom d).params with enabled := false }
        readyTimer := none, idleTimer := .stopped, windTimer := none, minAwakeTimer := none } := rfl
    have hkept : (DomainRec.disabled (((taken s).dom d).params.flagged false) (s.dom d)).notice = (s.dom d).notice ∧
        (DomainRec.disabled (((taken s).dom d).params.flagged false) (s.dom d)).params.port = s.portOf d := ⟨rfl, rfl⟩
    generalize DomainRec.disabled (((taken s).dom d).params.flagged false) = f at hrecord hkept ⊢
    have spares := (taken s).spares_switchOff d .asleep f
    have full : s.AttachmentsFit → s.PortsFollow → s.NoticesFit → _ := fun ha hp hn =>
      taken_switchOff_eq (d := d) (f := f) ha hp hn hkept.1 hkept.2
    obtain ⟨⟨n, hrec⟩, hholder, hqueue⟩ := answered_switchOff (taken s) d f [0x18, tag, 0, 0, 0, 0, 0, 0]
    obtain ⟨hothers, haccount, hcauses, hengine, hline, htimer⟩ := spares.answered [0x18, tag, 0, 0, 0, 0, 0, 0]
    have hcontributions : (answered ((taken s).switchOff d .asleep f) [0x18, tag, 0, 0, 0, 0, 0, 0]).contributions =
        s.contributions := State.contributions_of_fixed (s := taken s) spares.fixed
    have hlast := fun room => spares.getLast room [0x18, tag, 0, 0, 0, 0, 0, 0]
    rw [hrecord] at hrec
    rw [show f (s.dom d) = _ from hrecord] at full
    have hbytes : responseBytes 0x18 tag (.okay [0, 0, if false = true then 1 else 0, 0, 0]) = [0x18, tag, 0, 0, 0, 0, 0, 0] := rfl
    rw [hbytes]
    refine ⟨fun _ ha hp hn => congrArg (fun t => answered t _) (full ha hp hn), ?_⟩
    dsimp only
    generalize answered ((taken s).switchOff d .asleep f) [0x18, tag, 0, 0, 0, 0, 0, 0] = t at *
    refine ⟨?_, ?_, ?_, ?_, ?_, ?_, ?_, ?_, ?_, ?_, ?_, ?_, hholder, hqueue, hothers, hcauses, haccount, hengine,
      hcontributions, hline, htimer, hlast⟩ <;> rw [hrec] <;> rfl
  · rw [show (1 : BitVec 16) = if true = true then 1 else 0 from rfl, answerSetDomainParameter_flag, State.setParams_flag,
      if_neg (by simp), paramBytes_flag]
    rfl

end

section
/-! What the operations of a domain leave as it was in the ports, the parameters and the recorded frames: the *calm* view of a
state. Recognitions and wake requests keep it; the counting, the forwarding and the recording of a completed evaluation
(O49) are what changes it. -/

namespace Sys2Proof.Machine

variable {s t : State} {d : Domain}

/-! ### The views -/

/-- A Port Unit without its state, its notices, its attempt and its replay. -/
structure PortCalm where
  rx        : List FrameRecord
  received  : Nat
  unmatched : Nat
  skipped   : Nat
  dropped   : Nat
  frames    : List FwdEntry

def PortUnit.calm (u : PortUnit) : PortCalm where
  rx := u.rx
  received := u.received
  unmatched := u.unmatched
  skipped := u.forwardSkipped
  dropped := u.forwardDrop
  frames := u.fwd.filter FwdEntry.isFrame

/-- The fixed blocks but for the contributions, the calm ports, the parameters, the counts and pointers of the Capture Store
and the recorded frames. -/
structure Calm where
  core   : Fixed
  ports  : Port → PortCalm
  params : Domain → DomainParams
  store  : Fin 4 × Nat × Nat × Nat × Nat
  kept   : Nat → List StoredFrame × Option Nat

def State.calm (s : State) : Calm where
  core := { s.fixed with contributions := Tab.replicate 8 [] }
  ports := fun p => (s.port p).calm
  params := fun d => (s.dom d).params
  store := (s.capture.mode, s.capture.post, s.capture.writePtr, s.capture.loss, s.capture.buffers.length)
  kept := fun j => ((s.buffer j).slots, (s.buffer j).stop)

theorem State.calm_eq_iff : t.calm = s.calm ↔
    ({ t.fixed with contributions := Tab.replicate 8 [] } : Fixed) = { s.fixed with contributions := Tab.replicate 8 [] } ∧
      (∀ p, (t.port p).calm = (s.port p).calm) ∧ (∀ d, (t.dom d).params = (s.dom d).params) ∧
      (t.capture.mode, t.capture.post, t.capture.writePtr, t.capture.loss, t.capture.buffers.length) =
        (s.capture.mode, s.capture.post, s.capture.writePtr, s.capture.loss, s.capture.buffers.length) ∧
      ∀ j, (t.buffer j).slots = (s.buffer j).slots ∧ (t.buffer j).stop = (s.buffer j).stop := by
  simp only [State.calm, Calm.mk.injEq, funext_iff, Prod.mk.injEq]

/-! ### Single changes -/

/-- A change of the blocks that the view does not show. -/
theorem State.calm_aside (fixed : t.fixed = s.fixed) (ports : t.ports = s.ports) (domains : t.domains = s.domains)
    (capture : t.capture = s.capture) : t.calm = s.calm :=
  State.calm_eq_iff.mpr ⟨by rw [fixed], fun p => by rw [State.port, ports]; rfl,
    fun d => by rw [State.dom_of_domains domains], by rw [capture], fun j => by rw [State.buffer, capture]; exact ⟨rfl, rfl⟩⟩

theorem State.calm_updPort (s : State) {p : Port} {f : PortUnit → PortUnit} (hf : (f (s.port p)).calm = (s.port p).calm) :
    (s.updPort p f).calm = s.calm :=
  State.calm_eq_iff.mpr ⟨rfl, fun q => by
    rw [State.port_updPort]
    split
    · next hq => subst hq; exact hf
    · rfl, fun _ => rfl, rfl, fun _ => ⟨rfl, rfl⟩⟩

theorem State.calm_updDom (s : State) {d : Domain} {f : DomainRec → DomainRec} (hf : (f (s.dom d)).params = (s.dom d).params) :
    (s.updDom d f).calm = s.calm :=
  State.calm_eq_iff.mpr ⟨rfl, fun _ => rfl, fun e => by
    rw [State.dom_updDom]
    split
    · next he => subst he; exact hf
    · rfl, rfl, fun _ => ⟨rfl, rfl⟩⟩

theorem State.calm_buffers (s : State) {l : List Buffer} (hlen : l.length = s.capture.buffers.length)
    (hl : ∀ j, (l.getD j Buffer.free).slots = (s.buffer j).slots ∧ (l.getD j Buffer.free).stop = (s.buffer j).stop) :
    ({ s with capture := { s.capture with buffers := l } } : State).calm = s.calm :=
  State.calm_eq_iff.mpr ⟨rfl, fun _ => rfl, fun _ => rfl, by rw [hlen], hl⟩

/-- A change of buffers, each by its place, that keeps the frames of every buffer. -/
theorem State.calm_mapIdx (s : State) {f : Nat → Buffer → Buffer} (hf : ∀ j b, (f j b).slots = b.slots ∧ (f j b).stop = b.stop) :
    ({ s with capture := { s.capture with buffers := s.capture.buffers.mapIdx f } } : State).calm = s.calm := by
  refine s.calm_buffers List.length_mapIdx (fun j => ?_)
  rw [State.buffer, List.getD_eq_getElem?_getD, List.getD_eq_getElem?_getD, List.getElem?_mapIdx]
  cases s.capture.buffers[j]? with
  | none => exact ⟨rfl, rfl⟩
  | some b => exact hf j b

theorem State.calm_updBuffer (s : State) (j : Nat) {f : Buffer → Buffer} (hf : ∀ b, (f b).slots = b.slots ∧ (f b).stop = b.stop) :
    (s.updBuffer j f).calm = s.calm := by
  refine s.calm_buffers (List.length_modify _ _ _) (fun k => ?_)
  rw [State.buffer, List.getD_eq_getElem?_getD, List.getD_eq_getElem?_getD, List.getElem?_modify]
  cases s.capture.buffers[k]? with
  | none => exact ⟨rfl, rfl⟩
  | some b =>
    by_cases h : j = k
    · simpa [h] using hf b
    · simp [h]

theorem State.calm_eachDomain {f : State → Domain → State} (hf : ∀ s d, (f s d).calm = s.calm) (s : State) :
    (s.eachDomain f).calm = s.calm := State.eachDomain_keeps State.calm f hf s

/-! ### Buffers left by a port -/

theorem Buffer.settle_kept (b : Buffer) : b.settle.slots = b.slots ∧ b.settle.stop = b.stop := by
  unfold Buffer.settle
  split <;> exact ⟨rfl, rfl⟩

theorem Buffer.giveUp_kept (b : Buffer) (p : Port) : (b.giveUp p).slots = b.slots ∧ (b.giveUp p).stop = b.stop :=
  Buffer.settle_kept _

theorem State.calm_abortReplay (s : State) (p : Port) : (s.abortReplay p).calm = s.calm := by
  unfold State.abortReplay
  split
  · exact (State.calm_updPort _ rfl).trans (s.calm_updBuffer _ (fun b => b.giveUp_kept p))
  · exact s.calm_updPort rfl

theorem State.calm_domainDown (s : State) (d : Domain) : (s.domainDown d).calm = s.calm :=
  s.calm_mapIdx (fun j b => by
    split
    · exact b.giveUp_kept _
    · exact ⟨rfl, rfl⟩)

/-! ### Port states, slots and notices -/

theorem State.calm_rederive (s : State) (p : Port) : (s.rederive p).calm = s.calm := by
  unfold State.rederive
  split
  · rfl
  · split
    · exact s.calm_updPort rfl
    · unfold State.portListen
      dsimp only
      split
      · exact s.calm_updPort rfl
      · split
        · exact (State.calm_updPort _ rfl).trans (s.calm_updPort rfl)
        · exact (State.calm_abortReplay _ p).trans (s.calm_updPort rfl)

theorem State.calm_enterState (s : State) (d : Domain) (st : DomainState) : (s.enterState d st).calm = s.calm :=
  (State.calm_rederive _ _).trans (s.calm_updDom rfl)

theorem State.calm_updSlots (s : State) (f : SlotArbiter → SlotArbiter) : (s.updSlots f).calm = s.calm :=
  State.calm_aside rfl rfl rfl rfl

theorem State.calm_releaseSlot (s : State) (d : Domain) : (s.releaseSlot d).calm = s.calm :=
  (State.calm_updDom _ rfl).trans (s.calm_updSlots _)

theorem State.calm_slotReady (s : State) (d : Domain) : (s.slotReady d).calm = s.calm := by
  unfold State.slotReady
  split
  · split
    · exact s.calm_releaseSlot d
    · exact s.calm_updSlots _
  · rfl

theorem filter_isFrame_filter (l : List FwdEntry) (d : Domain) :
    (l.filter (fun e => !e.isNoticeOf d)).filter FwdEntry.isFrame = l.filter FwdEntry.isFrame := by
  rw [List.filter_filter]
  refine List.filter_congr (fun e _ => ?_)
  by_cases he : e.isFrame = true <;> simp [he, FwdEntry.not_isNoticeOf_of_isFrame]

theorem PortUnit.withoutNotice_frames (u : PortUnit) (d : Domain) :
    (u.withoutNotice d).filter FwdEntry.isFrame = u.fwd.filter FwdEntry.isFrame := by
  unfold PortUnit.withoutNotice
  split
  · rw [List.filter_append, filter_isFrame_filter, ← List.filter_append, List.take_append_drop]
  · exact filter_isFrame_filter _ d

theorem PortUnit.withoutNotice_calm (u : PortUnit) (d : Domain) : { u with fwd := u.withoutNotice d }.calm = u.calm := by
  simp only [PortUnit.calm, PortUnit.withoutNotice_frames]

theorem PortUnit.offerNotice_calm (u : PortUnit) (d : Domain) (i : Ident) (k : NoticeKind) : (u.offerNotice d i k).calm = u.calm := by
  simp [PortUnit.calm, PortUnit.offerNotice, List.filter_append, PortUnit.withoutNotice_frames, FwdEntry.isFrame]

theorem State.calm_offered (s : State) (p : Port) (d : Domain) (i : Ident) (k : NoticeKind) (n : NoticeField) :
    ((s.updPort p (fun u => u.offerNotice d i k)).updDom d (fun r => { r with notice := n })).calm = s.calm :=
  (State.calm_updDom _ rfl).trans (s.calm_updPort (PortUnit.offerNotice_calm _ d i k))

theorem State.calm_startWind (s : State) (d : Domain) (n : NoticeField) :
    (s.updDom d (fun r => { r.startWind with notice := n })).calm = s.calm :=
  s.calm_updDom (DomainRec.quiet_startWind _).params

theorem State.calm_offerSleep (s : State) (d : Domain) : (s.offerSleep d).calm = s.calm := by
  unfold State.offerSleep
  split
  · exact s.calm_offered _ d _ _ _
  · exact s.calm_startWind d _

theorem State.calm_offerCancel (s : State) (d : Domain) : (s.offerCancel d).calm = s.calm := by
  unfold State.offerCancel
  split
  · exact s.calm_offered _ d _ _ _
  · exact s.calm_updDom rfl

theorem State.calm_settleNotice (s : State) (d : Domain) (k : NoticeKind) (b : Bool) : (s.settleNotice d k b).calm = s.calm := by
  unfold State.settleNotice
  split
  · exact s.calm_startWind d _
  · exact s.calm_offerSleep d
  · exact s.calm_offerCancel d
  · exact s.calm_offerCancel d
  · exact s.calm_updDom rfl

theorem State.calm_withdrawNotice (s : State) (d : Domain) : (s.withdrawNotice d).calm = s.calm := by
  unfold State.withdrawNotice
  dsimp only
  split
  · rfl
  · split
    · exact s.calm_updDom rfl
    · split
      · exact (State.calm_updDom _ rfl).trans (s.calm_updPort rfl)
      · exact (State.calm_settleNotice _ d _ _).trans (s.calm_updPort (PortUnit.withoutNotice_calm _ d))

/-! ### Transitions of a domain -/

theorem State.calm_switchOff (s : State) (d : Domain) (st : DomainState) {f : DomainRec → DomainRec}
    (hf : (f (s.dom d)).params = (s.dom d).params) : (s.switchOff d st f).calm = s.calm := by
  unfold State.switchOff
  dsimp only
  rw [State.calm_domainDown, State.calm_withdrawNotice, State.calm_releaseSlot, State.calm_updSlots, State.calm_enterState]
  exact s.calm_updDom hf

theorem State.calm_enterAwake (s : State) (d : Domain) : (s.enterAwake d).calm = s.calm :=
  (State.calm_enterState _ d _).trans (s.calm_updDom rfl)

theorem State.calm_becomeReady (s : State) (d : Domain) : (s.becomeReady d).calm = s.calm := by
  rw [State.becomeReady, State.calm_slotReady, State.calm_enterAwake]
  exact s.calm_updDom rfl

theorem State.calm_returnAwake (s : State) (d : Domain) (c : WakeClass) : (s.returnAwake d c).calm = s.calm := by
  have hnotice : ∀ t : State, (t.noticeAtReturn d).calm = t.calm := fun t => by
    unfold State.noticeAtReturn
    split
    · exact t.calm_withdrawNotice d
    · exact t.calm_offerCancel d
    · rfl
  rw [State.returnAwake, hnotice, State.calm_enterAwake]
  exact s.calm_updDom rfl

/-! ### Wake requests (R78, R131, R132) -/

theorem State.calm_admitted (s : State) (d : Domain) (c : WakeClass) : (s.admitted d c).calm = s.calm := by
  unfold State.admitted
  split
  · exact s.calm_returnAwake d c
  · dsimp only
    rw [State.calm_updSlots, State.calm_enterState]
    exact s.calm_updDom rfl

theorem State.calm_merged (s : State) (d : Domain) (c : WakeClass) : (s.merged d c).calm = s.calm := by
  have hclass : (s.updDom d (fun r => { r with wakeClass := some (mergedClass (s.dom d).wakeClass c) })).calm = s.calm :=
    s.calm_updDom rfl
  unfold State.merged
  dsimp only
  split
  · exact (State.calm_updSlots _ _).trans hclass
  · exact (State.calm_updDom _ rfl).trans hclass
  · exact hclass

theorem Buffer.take_kept (b : Buffer) (post : Nat) (d : Domain) (p : Port) (c : Cause) :
    (b.take post d p c).slots = b.slots ∧ (b.take post d p c).stop = b.stop := by
  unfold Buffer.take
  split <;> exact ⟨rfl, rfl⟩

theorem State.calm_trigger (s : State) (d : Domain) (cause : Cause) : (s.trigger d cause).calm = s.calm := by
  unfold State.trigger
  split
  · exact s.calm_updBuffer _ (fun b => b.take_kept _ _ _ _)
  · rfl

theorem State.calm_ite {q : Prop} [Decidable q] (h : t.calm = s.calm) : (if q then t else s).calm = s.calm := by
  split
  · exact h
  · rfl

theorem State.calm_settleAdmission (s : State) (d : Domain) (c : WakeClass) (cause : Cause) (o : WakeOutcome) :
    (s.settleAdmission d c cause o).calm = s.calm :=
  (State.calm_ite (State.calm_trigger _ d cause)).trans (State.calm_ite (State.calm_aside rfl rfl rfl rfl))

theorem State.calm_wakeRequest (s : State) (d : Domain) (c : WakeClass) (cause : Cause) :
    (s.wakeRequest d c cause).calm = s.calm := by
  have hwritten : ∀ o j, ((s.settleAdmission d c cause o).writeCause d cause c o j).calm = s.calm := fun o j =>
    (State.calm_aside rfl rfl rfl rfl).trans (s.calm_settleAdmission d c cause o)
  unfold State.wakeRequest State.actOn
  dsimp only
  split
  · exact (State.calm_admitted _ d c).trans (hwritten _ _)
  · exact (State.calm_merged _ d c).trans (hwritten _ _)
  · exact hwritten _ _

/-! ### Recognition, direct wakes and contributions (R24, R31, R32, R34) -/

theorem State.calm_activityFrame (s : State) (d : Domain) (i : Ident) : (s.activityFrame d i).calm = s.calm := by
  unfold State.activityFrame
  split
  · exact s.calm_updDom rfl
  · rfl

theorem State.calm_ignoreFrame (s : State) (d : Domain) : (s.ignoreFrame d).calm = s.calm := s.calm_updDom rfl

theorem State.calm_recognise (s : State) (d : Domain) (i : Ident) : (s.recognise d i).calm = s.calm := by
  have hfault : (s.faultFrame d).calm = s.calm := by
    unfold State.faultFrame
    split
    · exact s.calm_switchOff d _ (DomainRec.quiet_stopAtFault _).params
    · exact s.calm_ignoreFrame d
  have hannounce : (s.announceFrame d).calm = s.calm := by
    unfold State.announceFrame
    split
    · exact s.calm_becomeReady d
    · exact s.calm_ignoreFrame d
  have hsleep : ∀ t : State, (t.sleepReadyFrame d).calm = t.calm := fun t => by
    unfold State.sleepReadyFrame
    split
    · exact t.calm_switchOff d _ (DomainRec.quiet_stopWinding _).params
    · exact t.calm_ignoreFrame d
  unfold State.recognise
  dsimp only
  split
  · exact hfault
  · rw [State.calm_activityFrame]
    exact (State.calm_ite (hsleep _)).trans (State.calm_ite hannounce)

theorem State.calm_recogniseRecord (s : State) (r : FrameRecord) : (s.recogniseRecord r).calm = s.calm := by
  unfold State.recogniseRecord
  split
  · exact State.calm_eachDomain (fun t d => State.calm_ite (t.calm_recognise d _)) s
  · rfl

theorem State.calm_directWake (s : State) (ixs : List RowIx) (d : Domain) : (s.directWake ixs d).calm = s.calm := by
  unfold State.directWake
  dsimp only
  split
  · split
    · exact s.calm_wakeRequest d _ _
    · rfl
  · rfl

theorem State.calm_setContributions (s : State) (g : GroupIx) (l : List Contribution) : (s.setContributions g l).calm = s.calm :=
  State.calm_eq_iff.mpr ⟨rfl, fun _ => rfl, fun _ => rfl, rfl, fun _ => ⟨rfl, rfl⟩⟩

theorem State.calm_contributeRow (s : State) (i : RowIx) : (s.contributeRow i).calm = s.calm := by
  have hfire : ∀ (t : State) (g : GroupIx), (t.fireGroup g).calm = t.calm := fun t g =>
    (State.calm_eachDomain (fun u d => State.calm_ite (u.calm_wakeRequest d _ _)) _).trans (t.calm_setContributions g [])
  unfold State.contributeRow
  split
  · unfold State.takeContribution
    dsimp only
    split
    · split
      · exact hfire s _
      · exact s.calm_setContributions _ _
    · rfl
  · rfl

/-- The direct wakes and the contributions of a completed evaluation (R24, steps 5 and 6). -/
def State.wakesOf (s : State) (ixs : List RowIx) : State :=
  ixs.foldl State.contributeRow (s.eachDomain (fun s d => s.directWake ixs d))

theorem State.calm_wakesOf (s : State) (ixs : List RowIx) : (s.wakesOf ixs).calm = s.calm :=
  (State.foldl_keeps State.calm State.contributeRow State.calm_contributeRow ixs _).trans
    (State.calm_eachDomain (fun t d => t.calm_directWake ixs d) s)

end Sys2Proof.Machine
end

section
/-! The match result in the claims' words, and what counting, forwarding and recording do (R24 to R35, R145). -/

namespace Sys2Proof.Machine

open Sys2Proof.Claims

variable {s t : State} {r : FrameRecord}

/-! ### Port sets -/

theorem hasPort_onlyPort : ∀ p q : Port, hasPort (onlyPort p) q = (q == p) := by decide

/-- Evaluated for each of the 128 sets of ports. -/
theorem hasPort_portsWhere : ∀ (f : Port → Bool) (p : Port), hasPort (portsWhere f) p = f p := by decide +kernel

theorem hasPort_or (a b : PortSet) (p : Port) : hasPort (a ||| b) p = (hasPort a p || hasPort b p) := BitVec.getLsbD_or

theorem hasPort_withoutPort (a : PortSet) (p q : Port) : hasPort (withoutPort a p) q = (hasPort a q && q != p) := by
  have honly : (onlyPort p).getLsbD q.val = (q == p) := hasPort_onlyPort p q
  have hq : q.val < 7 := q.isLt
  rw [hasPort, withoutPort, BitVec.getLsbD_and, BitVec.getLsbD_not, honly, decide_eq_true hq, Bool.true_and]
  rfl

theorem portSet_ext {a b : PortSet} (h : ∀ p, hasPort a p = hasPort b p) : a = b :=
  BitVec.eq_of_getLsbD_eq (fun i hi => h ⟨i, hi⟩)

theorem foldl_onlyPort (f : Port → Bool) (q : Port) (l : List Port) (a : PortSet) :
    hasPort (l.foldl (fun acc p => if f p = true then acc ||| onlyPort p else acc) a) q =
      (hasPort a q || (l.contains q && f q)) := by
  induction l generalizing a with
  | nil => simp
  | cons p l ih =>
    rw [List.foldl_cons, ih, List.contains_cons]
    have hacc : hasPort (if f p = true then a ||| onlyPort p else a) q = (hasPort a q || (q == p && f q)) := by
      by_cases hq : q = p
      · subst hq
        cases hf : f q <;> simp [hasPort_or, hasPort_onlyPort]
      · have hne : (q == p) = false := by simpa using hq
        split <;> simp [hasPort_or, hasPort_onlyPort, hne]
    rw [hacc, Bool.or_assoc, Bool.and_or_distrib_right]

theorem hasPort_portSetWhere (f : Port → Bool) (p : Port) : hasPort (portSetWhere f) p = f p := by
  rw [portSetWhere, foldl_onlyPort]
  simp [hasPort]

theorem portSetWhere_eq (f : Port → Bool) : portSetWhere f = portsWhere f :=
  portSet_ext (fun p => by rw [hasPort_portSetWhere, hasPort_portsWhere])

/-! ### Matching (R25, R27, R28) -/

/-- Two words agree under a mask where they agree in its ones. -/
theorem and_beq_and_iff {n : Nat} (a b m : BitVec n) :
    (a &&& m == b &&& m) = true ↔ ∀ i : Fin n, m.getLsbD i.val = true → a.getLsbD i.val = b.getLsbD i.val := by
  rw [beq_iff_eq]
  constructor
  · intro h i hm
    have := congrArg (fun x : BitVec n => x.getLsbD i.val) h
    simpa only [BitVec.getLsbD_and, hm, Bool.and_true] using this
  · intro h
    refine BitVec.eq_of_getLsbD_eq (fun i hi => ?_)
    rw [BitVec.getLsbD_and, BitVec.getLsbD_and]
    by_cases hm : m.getLsbD i = true
    · rw [h ⟨i, hi⟩ hm]
    · simp [hm]

theorem DataTest.passes_eq (t : DataTest) (data : List Byte) : t.passes data = dataPasses t data := by
  unfold DataTest.passes dataPasses
  cases data[t.index.val]? with
  | none => rfl
  | some v => exact Bool.eq_iff_iff.mpr ((and_beq_and_iff v t.value t.mask).trans decide_eq_true_iff.symm)

theorem RowModes.admits_iff (m : RowModes) (mode : Mode) :
    m.admits mode = true ↔ m = .both ∨ (m = .run ∧ mode = .run) ∨ (m = .park ∧ mode = .park) := by
  cases m <;> cases mode <;> decide

theorem mem_matching {i : RowIx} : i ∈ s.matching r ↔ rowMatches s r i := by
  simp only [State.matching, List.mem_filter, List.mem_finRange, true_and, Row.matches, Bool.and_eq_true, and_assoc,
    RowModes.admits_iff, and_beq_and_iff]
  refine and_congr Iff.rfl (and_congr Iff.rfl (and_congr Iff.rfl (and_congr Iff.rfl ?_)))
  rw [activeRow]
  cases (s.engine.active.rows.get i).test with
  | none => simp
  | some t => simp [DataTest.passes_eq]

theorem matching_nodup (s : State) (r : FrameRecord) : (s.matching r).Nodup := (List.nodup_finRange 128).filter _

theorem matching_eq_nil : s.matching r = [] ↔ ∀ i : RowIx, ¬rowMatches s r i := by
  rw [List.eq_nil_iff_forall_not_mem]
  exact forall_congr' (fun i => not_congr mem_matching)

/-! ### The match result (R30, R33) -/

/-- The forward set of the rows that match. -/
def State.forwards (s : State) (r : FrameRecord) : PortSet := forwardSet ((s.matching r).map (activeRow s)) r

theorem hasPort_foldl_forward (rows : List Row) (a : PortSet) (p : Port) :
    hasPort (rows.foldl (fun acc row => acc ||| row.forward) a) p = true ↔
      hasPort a p = true ∨ ∃ row ∈ rows, hasPort row.forward p = true := by
  induction rows generalizing a with
  | nil => simp
  | cons row rows ih => rw [List.foldl_cons, ih, hasPort_or, Bool.or_eq_true, or_assoc]; simp

theorem hasPort_forwards {p : Port} : hasPort (s.forwards r) p = true ↔ forwardedTo s r p := by
  have hrow : (∃ row ∈ (s.matching r).map (activeRow s), hasPort row.forward p = true) ↔
      ∃ i : RowIx, rowMatches s r i ∧ hasPort (activeRow s i).forward p = true := by
    simp only [List.mem_map, exists_exists_and_eq_and, mem_matching]
  have hempty : hasPort (0 : PortSet) p = false := by simp [hasPort]
  unfold State.forwards forwardSet
  split
  · next q hsource hinjected =>
    rw [hasPort_withoutPort, Bool.and_eq_true, hasPort_foldl_forward, hempty, hrow]
    simp [hsource, hinjected, forwardedTo, and_comm]
  · next hother =>
    rw [hempty]
    refine iff_of_false (by decide) (fun ⟨⟨q, hq, _⟩, hi, _⟩ => hother q hq hi)

theorem forwards_eq (s : State) (r : FrameRecord) : s.forwards r = portsWhere (fun p => forwardedTo s r p) :=
  portSet_ext (fun p => by rw [hasPort_portsWhere, Bool.eq_iff_iff, hasPort_forwards, decide_eq_true_iff])

theorem recordFlag_iff : recordFlag ((s.matching r).map (activeRow s)) s.mode r = true ↔ recordedBy s r := by
  simp only [recordFlag, Bool.and_eq_true, List.any_eq_true, List.mem_map, exists_exists_and_eq_and, mem_matching, beq_iff_eq,
    Bool.not_eq_true', recordedBy]
  exact ⟨fun ⟨⟨hrow, hmode⟩, hinjected⟩ => ⟨hmode, hinjected, hrow⟩, fun ⟨hmode, hinjected, hrow⟩ => ⟨⟨hrow, hmode⟩, hinjected⟩⟩

/-! ### Counting (R29, R35) -/

theorem foldl_modify_get {α : Type} {n : Nat} (f : α → α) (l : List (Fin n)) (hl : l.Nodup) (t : Tab α n) (i : Fin n) :
    (l.foldl (fun t i => t.modify i f) t).get i = if i ∈ l then f (t.get i) else t.get i := by
  induction l generalizing t with
  | nil => simp
  | cons k l ih =>
    obtain ⟨hk, hl⟩ := List.nodup_cons.mp hl
    rw [List.foldl_cons, ih hl, Tab.get_modify]
    by_cases hi : i = k
    · subst hi; simp [hk]
    · simp [hi]

theorem State.countHits_hits (s : State) (r : FrameRecord) (i : RowIx) :
    (s.countHits (s.matching r)).engine.hits.get i =
      if rowMatches s r i then counted (s.engine.hits.get i) else s.engine.hits.get i := by
  refine (foldl_modify_get _ _ (matching_nodup s r) _ i).trans ?_
  simp only [mem_matching]
  rfl

theorem State.countUnmatched_port (s t : State) (r : FrameRecord) (p : Port) :
    (t.countUnmatched (s.matching r) r).port p =
      if r.source = .port p ∧ ∀ i : RowIx, ¬rowMatches s r i then
        { t.port p with unmatched := counted (t.port p).unmatched }
      else t.port p := by
  unfold State.countUnmatched
  split
  · next q hnil hsource =>
    rw [State.port_updPort]
    by_cases hq : p = q
    · rw [if_pos hq, if_pos ⟨by rw [hq]; exact hsource, matching_eq_nil.mp hnil⟩]
      rfl
    · rw [if_neg hq, if_neg (fun h => hq (Source.port.inj (h.1.symm.trans hsource)))]
  · next hother => exact (if_neg (fun h => hother p (matching_eq_nil.mpr h.2) h.1)).symm

end Sys2Proof.Machine
end

section
/-! The stages of a completed evaluation (R24): counting, recognition, forwarding and recording, wakes, closing. -/

namespace Sys2Proof.Machine

open Sys2Proof.Claims

variable {s t : State} {r : FrameRecord}

/-! ### Forwarding (R11, R30, R33) -/

/-- A change of several ports in turn, each by its own unit. -/
theorem foldl_updPort (q : Port → Bool) (f : PortUnit → PortUnit) (l : List Port) (hl : l.Nodup) (s : State) (p : Port) :
    (l.foldl (fun s p => if q p = true then s.updPort p f else s) s).port p =
      if p ∈ l ∧ q p = true then f (s.port p) else s.port p := by
  induction l generalizing s with
  | nil => simp
  | cons k l ih =>
    obtain ⟨hk, hl⟩ := List.nodup_cons.mp hl
    rw [List.foldl_cons, ih hl]
    by_cases hp : p = k
    · subst hp
      cases hq : q p <;> simp [hk]
    · have hport : (if q k = true then s.updPort k f else s).port p = s.port p := by
        split
        · exact State.port_updPort_ne _ _ hp
        · rfl
      rw [hport]
      simp [hp]

theorem State.forwardRecord_port (s : State) (fs : PortSet) (r : FrameRecord) (p : Port) :
    (s.forwardRecord fs r).port p =
      if hasPort fs p = true then (s.port p).offerForward (.frame r.ident r.data false) else s.port p := by
  rw [State.forwardRecord, foldl_updPort _ _ _ (List.nodup_finRange 7)]
  simp

/-- Forwarding touches the ports alone. -/
theorem State.forwardRecord_aside (s : State) (fs : PortSet) (r : FrameRecord) :
    (s.forwardRecord fs r).fixed = s.fixed ∧ (s.forwardRecord fs r).domains = s.domains ∧
      (s.forwardRecord fs r).capture = s.capture := by
  have := State.foldl_keeps (fun t => (t.fixed, t.domains, t.capture))
    (fun s p => if hasPort fs p = true then s.updPort p (fun u => u.offerForward (.frame r.ident r.data false)) else s)
    (fun t p => by split <;> rfl) (List.finRange 7) s
  simp only [Prod.mk.injEq] at this
  exact this

theorem PortUnit.offerForward_keeps (u : PortUnit) (e : FwdEntry) :
    (u.offerForward e).rx = u.rx ∧ (u.offerForward e).received = u.received ∧ (u.offerForward e).unmatched = u.unmatched ∧
      (u.offerForward e).active = u.active := by
  unfold PortUnit.offerForward
  (repeat' split) <;> exact ⟨rfl, rfl, rfl, rfl⟩

/-- A frame entry offered by the Match Engine: appended, dropped or skipped (R11). -/
theorem PortUnit.offerForward_frames (u : PortUnit) {e : FwdEntry} (he : e.isFrame = true) :
    (u.offerForward e).fwd.filter FwdEntry.isFrame =
        u.fwd.filter FwdEntry.isFrame ++ (if u.active = true ∧ u.frameEntries < 24 then [e] else []) ∧
      (u.offerForward e).forwardSkipped = (if u.active = false then counted u.forwardSkipped else u.forwardSkipped) ∧
      (u.offerForward e).forwardDrop =
        if u.active = true ∧ 24 ≤ u.frameEntries then counted u.forwardDrop else u.forwardDrop := by
  unfold PortUnit.offerForward
  cases ha : u.active with
  | false => simp [PortUnit.countSkipped, satInc_counterMax]
  | true =>
    rw [if_pos rfl, show Config.forwardQueue = 24 from rfl]
    by_cases hroom : u.frameEntries < 24
    · simp [hroom, Nat.not_le.mpr hroom, he, List.filter_append]
    · simp [hroom, Nat.not_lt.mp hroom, PortUnit.countDrop, satInc_counterMax]

/-! ### Recording (R145) -/

/-- The slot after the stop slot, or slot 0, takes the frame. -/
theorem Buffer.write_slots {b : Buffer} {size : Nat} (hb : b.FramesFit size) (f : StoredFrame) :
    (b.write size f).stop = some (nextSlot b size) ∧
      (b.write size f).slots = b.slots.take (nextSlot b size) ++ f :: b.slots.drop (nextSlot b size + 1) := by
  obtain ⟨hlen, hnone, hsome⟩ := hb
  have hslot : ∀ k ∈ b.stop, (k + 1) % size = if k + 1 = size then 0 else k + 1 := fun k hk => by
    have := (hsome k hk).1
    split
    · next h => rw [h, Nat.mod_self]
    · exact Nat.mod_eq_of_lt (by omega)
  have hnext : ∀ n, n = nextSlot b size → ¬n < b.slots.length → n = b.slots.length := by
    rintro n rfl hn
    unfold nextSlot at hn ⊢
    cases hs : b.stop with
    | none => rw [(hnone hs).1]; rfl
    | some k =>
      obtain ⟨hk, hfull⟩ := hsome k hs
      rw [hs] at hn
      dsimp only at hn ⊢
      split at hn
      · omega
      · next hne =>
        rw [if_neg hne, (hfull (by omega)).1]
  have hwrite : b.write size f = if nextSlot b size < b.slots.length then
      { b with
        slots := b.slots.set (nextSlot b size) f, stop := some (nextSlot b size), wrapped := true
        postLeft := if b.state = .post then b.postLeft - 1 else b.postLeft }
      else
        { b with
          slots := b.slots ++ [f], stop := some (nextSlot b size)
          postLeft := if b.state = .post then b.postLeft - 1 else b.postLeft } := by
    unfold Buffer.write nextSlot
    cases hs : b.stop with
    | none => rfl
    | some k => dsimp only; rw [hslot k hs]
  rw [hwrite]
  split
  · next h => exact ⟨rfl, List.set_eq_take_append_cons_drop.trans (if_pos h)⟩
  · next h =>
    have hlen := hnext _ rfl h
    rw [hlen]
    exact ⟨rfl, by simp⟩

theorem Buffer.write_post (b : Buffer) (size : Nat) (f : StoredFrame) :
    (b.write size f).state = b.state ∧ (b.write size f).pending = b.pending ∧ (b.write size f).woken = b.woken ∧
      (b.write size f).postLeft = if b.state = .post then b.postLeft - 1 else b.postLeft := by
  unfold Buffer.write
  cases b.stop <;> dsimp only <;> split <;> exact ⟨rfl, rfl, rfl, rfl⟩

/-! ### Counting (R29, R35) -/

/-- The state once the hits and the unmatched record have been counted (R24, step 1). -/
def State.tallied (s : State) (r : FrameRecord) : State :=
  (s.idleEngine.countHits (s.matching r)).countUnmatched (s.matching r) r

theorem State.countUnmatched_aside (s : State) (ixs : List RowIx) (r : FrameRecord) :
    (s.countUnmatched ixs r).fixed = s.fixed ∧ (s.countUnmatched ixs r).domains = s.domains ∧
      (s.countUnmatched ixs r).capture = s.capture := by
  unfold State.countUnmatched
  split <;> exact ⟨rfl, rfl, rfl⟩

theorem State.tallied_port (s : State) (r : FrameRecord) (p : Port) :
    (s.tallied r).port p =
      if r.source = .port p ∧ ∀ i : RowIx, ¬rowMatches s r i then
        { s.port p with unmatched := counted (s.port p).unmatched }
      else s.port p := State.countUnmatched_port s _ r p

theorem State.tallied_aside (s : State) (r : FrameRecord) :
    (s.tallied r).domains = s.domains ∧ (s.tallied r).capture = s.capture ∧
      (s.tallied r).fixed = (s.idleEngine.countHits (s.matching r)).fixed := by
  obtain ⟨hfixed, hdomains, hcapture⟩ := State.countUnmatched_aside (s.idleEngine.countHits (s.matching r)) (s.matching r) r
  exact ⟨hdomains, hcapture, hfixed⟩

/-! ### The stages -/

/-- The state once the record has been recognised, forwarded and recorded (R24, steps 2 to 4). -/
def State.handled (s : State) (r : FrameRecord) : State :=
  ((s.tallied r).recogniseRecord r).forwardAndRecord (s.matching r) r

theorem State.complete_eq (s : State) (r : FrameRecord) :
    s.idleEngine.complete r = ((s.handled r).wakesOf (s.matching r)).closeIfComplete := rfl

/-- Closing keeps the frames of every buffer, and the count of lost frames. -/
theorem State.closeIfComplete_kept (s : State) : s.closeIfComplete.capture.loss = s.capture.loss ∧
    ∀ j, (s.closeIfComplete.buffer j).slots = (s.buffer j).slots ∧ (s.closeIfComplete.buffer j).stop = (s.buffer j).stop := by
  have hopen : ∀ t : State, t.openBuffer.calm = t.calm := fun t => State.calm_ite (t.calm_updBuffer _ (fun _ => ⟨rfl, rfl⟩))
  have hclose := s.calm_updBuffer s.capture.writePtr (f := fun b => b.close s.clock) (fun b => Buffer.settle_kept _)
  unfold State.closeIfComplete
  dsimp only
  split
  · unfold State.closeBuffer
    dsimp only
    obtain ⟨-, -, -, hstore, hkept⟩ := State.calm_eq_iff.mp hclose
    obtain ⟨-, -, -, hstore', hkept'⟩ := State.calm_eq_iff.mp (hopen { s.updBuffer s.capture.writePtr (fun b => b.close s.clock) with
      capture := { (s.updBuffer s.capture.writePtr (fun b => b.close s.clock)).capture with
        writePtr := s.nextBuffer s.capture.writePtr } })
    simp only [Prod.mk.injEq] at hstore hstore'
    exact ⟨hstore'.2.2.2.1.trans hstore.2.2.2.1, fun j => ⟨(hkept' j).1.trans (hkept j).1, (hkept' j).2.trans (hkept j).2⟩⟩
  · exact ⟨rfl, fun _ => ⟨rfl, rfl⟩⟩

end Sys2Proof.Machine
end

section
/-! A completed evaluation in any state, and of a record that no domain recognises: hits, counts, forwarded entries and
recorded frames (O49). -/

namespace Sys2Proof.Machine

open Sys2Proof.Claims

variable {s t : State} {r : FrameRecord}

/-! ### A record that no domain recognises (R82, R86) -/

/-- All of a state but for its idle timers. -/
def State.unidled (s : State) : State :=
  { s with domains := Tab.ofFn (fun d => { s.dom d with idleTimer := .stopped }) }

theorem State.unidled_dom (h : t.unidled = s.unidled) (d : Domain) :
    ({ t.dom d with idleTimer := .stopped } : DomainRec) = { s.dom d with idleTimer := .stopped } := by
  have := congrArg (fun u : State => u.dom d) h
  simpa only [State.unidled, State.dom, Tab.get_ofFn] using this

theorem State.recognisedBy_of_unidled (h : t.unidled = s.unidled) (d : Domain) : recognisedBy t r d ↔ recognisedBy s r d := by
  have hparams : (t.dom d).params = (s.dom d).params := by injection State.unidled_dom h d
  rw [recognisedBy, recognisedBy, State.portOf, hparams, State.portOf]

theorem State.unidled_activityFrame (s : State) (d : Domain) (i : Ident) : (s.activityFrame d i).unidled = s.unidled := by
  unfold State.activityFrame
  split
  · refine congrArg (fun ds => { s with domains := ds }) (Tab.ext_get (fun e => ?_))
    rw [Tab.get_ofFn, Tab.get_ofFn, State.dom_updDom]
    split <;> rfl
  · rfl

/-- A record that no domain recognises restarts idle timers at most. -/
theorem State.unidled_recogniseRecord (h : ∀ d, ¬recognisedBy s r d) : (s.recogniseRecord r).unidled = s.unidled := by
  have one : ∀ (t : State) (p : Port) (d : Domain), r.source = .port p → ¬recognisedBy t r d →
      (if t.portOf d = p then t.recognise d r.ident else t).unidled = t.unidled := fun t p d hp hd => by
    split
    · next hat =>
      have hnot : ∀ o, (o = (t.dom d).params.faultId ∨ o = (t.dom d).params.announceId ∨ o = (t.dom d).params.sleepReadyId) →
          o ≠ some r.ident := by
        rintro o ho rfl
        exact hd ⟨by rw [hp, hat], by rcases ho with h | h | h <;> simp [← h]⟩
      unfold State.recognise
      dsimp only
      rw [if_neg (hnot _ (.inl rfl)), if_neg (hnot _ (.inr (.inl rfl))), if_neg (hnot _ (.inr (.inr rfl)))]
      exact t.unidled_activityFrame d _
    · rfl
  unfold State.recogniseRecord
  split
  · next p hp =>
    unfold State.offerToDomains State.eachDomain
    induction List.finRange 12 generalizing s with
    | nil => rfl
    | cons d l ih =>
      have hstep := one s p d hp (h d)
      rw [List.foldl_cons, ih (fun e => by rw [State.recognisedBy_of_unidled hstep]; exact h e), hstep]
  · rfl

/-- What such a record leaves as it was. -/
theorem State.ports_of_unidled (h : t.unidled = s.unidled) : t.ports = s.ports ∧ t.capture = s.capture ∧ t.fixed = s.fixed := by
  refine ⟨?_, ?_, ?_⟩
  · injection h
  · injection h
  · have hfixed : t.unidled.fixed = s.unidled.fixed := congrArg State.fixed h
    exact hfixed

/-! ### The ports at the end of a completed evaluation -/

theorem forwardAndRecord_port (s : State) (ixs : List RowIx) (r : FrameRecord) (p : Port) :
    (s.forwardAndRecord ixs r).port p =
      (s.forwardRecord (forwardSet (ixs.map (fun i => s.engine.active.rows.get i)) r) r).port p := by
  unfold State.forwardAndRecord
  dsimp only
  split
  · rw [State.port, State.recordFrame_ports, State.port]
  · rfl

theorem State.calm_port (h : t.calm = s.calm) (p : Port) : (t.port p).calm = (s.port p).calm := (State.calm_eq_iff.mp h).2.1 p

theorem State.recogniseRecord_fixed (s : State) (r : FrameRecord) : (s.recogniseRecord r).fixed = s.fixed := by
  unfold State.recogniseRecord
  split
  · simp
  · rfl

/-- The rows that match are judged alike before the completion and in it. -/
theorem State.table_recognised (s : State) (r : FrameRecord) :
    (((s.tallied r).recogniseRecord r).engine.active = s.engine.active) ∧
      ((s.tallied r).recogniseRecord r).mode = s.mode := by
  have hcounted := ((s.tallied r).recogniseRecord_fixed r).trans (s.tallied_aside r).2.2
  exact ⟨congrArg (fun x : Fixed => x.engine.active) hcounted, congrArg (fun x : Fixed => x.management.mode) hcounted⟩

theorem State.handled_port (s : State) (r : FrameRecord) (p : Port) :
    (s.handled r).port p =
      if hasPort (s.forwards r) p = true then
        (((s.tallied r).recogniseRecord r).port p).offerForward (.frame r.ident r.data false)
      else ((s.tallied r).recogniseRecord r).port p := by
  rw [State.handled, forwardAndRecord_port, State.forwardRecord_port, (s.table_recognised r).1]
  rfl

theorem State.completed_calm (s : State) (r : FrameRecord) (p : Port) :
    ((s.idleEngine.complete r).port p).calm = ((s.handled r).port p).calm := by
  rw [State.complete_eq, State.port, State.closeIfComplete_ports]
  exact State.calm_port ((s.handled r).calm_wakesOf _) p

theorem PortUnit.calm_eq {u v : PortUnit} (h : v.calm = u.calm) :
    v.rx = u.rx ∧ v.received = u.received ∧ v.unmatched = u.unmatched ∧ v.forwardSkipped = u.forwardSkipped ∧
      v.forwardDrop = u.forwardDrop ∧ v.fwd.filter FwdEntry.isFrame = u.fwd.filter FwdEntry.isFrame := by
  simpa only [PortUnit.calm, PortCalm.mk.injEq] using h

/-- The receive side of every port (O49's second clause). -/
theorem State.completed_receive (s : State) (r : FrameRecord) (p : Port) :
    ((s.idleEngine.complete r).port p).unmatched =
        (if r.source = .port p ∧ ∀ i : RowIx, ¬rowMatches s r i then counted (s.port p).unmatched else (s.port p).unmatched) ∧
      ((s.idleEngine.complete r).port p).rx = (s.port p).rx ∧
      ((s.idleEngine.complete r).port p).received = (s.port p).received := by
  obtain ⟨hrx, hreceived, hunmatched, -⟩ := PortUnit.calm_eq (s.completed_calm r p)
  obtain ⟨hrx', hreceived', hunmatched', -⟩ :=
    PortUnit.calm_eq (State.calm_port ((s.tallied r).calm_recogniseRecord r) p)
  have hhandled : ((s.handled r).port p).rx = (((s.tallied r).recogniseRecord r).port p).rx ∧
      ((s.handled r).port p).received = (((s.tallied r).recogniseRecord r).port p).received ∧
      ((s.handled r).port p).unmatched = (((s.tallied r).recogniseRecord r).port p).unmatched := by
    obtain ⟨h₁, h₂, h₃, -⟩ := PortUnit.offerForward_keeps (((s.tallied r).recogniseRecord r).port p) (.frame r.ident r.data false)
    rw [State.handled_port]
    split
    · exact ⟨h₁, h₂, h₃⟩
    · exact ⟨rfl, rfl, rfl⟩
  obtain ⟨h₁, h₂, h₃⟩ := hhandled
  rw [hrx, hreceived, hunmatched, h₁, h₂, h₃, hrx', hreceived', hunmatched', State.tallied_port]
  split <;> exact ⟨rfl, rfl, rfl⟩

theorem State.handled_fixed (s : State) (r : FrameRecord) :
    (s.handled r).fixed = ((s.tallied r).recogniseRecord r).fixed := by
  rw [State.handled]
  unfold State.forwardAndRecord
  dsimp only
  split
  · rw [State.recordFrame_fixed, (State.forwardRecord_aside _ _ _).1]
  · exact (State.forwardRecord_aside _ _ _).1

/-- The fixed blocks at the end of a completed evaluation, but for the contributions. -/
theorem State.completed_core (s : State) (r : FrameRecord) :
    ({ (s.idleEngine.complete r).fixed with contributions := Tab.replicate 8 [] } : Fixed) =
      { (s.idleEngine.countHits (s.matching r)).fixed with contributions := Tab.replicate 8 [] } := by
  rw [State.complete_eq, State.closeIfComplete_fixed, (State.calm_eq_iff.mp ((s.handled r).calm_wakesOf (s.matching r))).1,
    s.handled_fixed r, State.recogniseRecord_fixed, (s.tallied_aside r).2.2]

/-- The stored frame of the record. -/
def frameOf (s : State) (r : FrameRecord) : StoredFrame where
  record := r
  forward := portsWhere (fun p => forwardedTo s r p)
  delivered := portsWhere (fun p => takenLive s r p)

/-- Recording reads and changes the captures alone. -/
theorem State.recordFrame_capture (h : t.capture = s.capture) (f : StoredFrame) :
    (t.recordFrame f).capture = (s.recordFrame f).capture := by
  unfold State.recordFrame State.buffer State.updBuffer
  rw [h]
  split <;> rfl

/-! ### Forward queues and recorded frames, where no domain recognises the record -/

section
variable (hnone : ∀ d, ¬recognisedBy s r d)
include hnone

theorem State.unrecognised : ((s.tallied r).recogniseRecord r).ports = (s.tallied r).ports ∧
    ((s.tallied r).recogniseRecord r).capture = s.capture := by
  have h : ∀ d, ¬recognisedBy (s.tallied r) r d := fun d hd => hnone d (by
    rw [recognisedBy, State.portOf, State.dom_of_domains (s.tallied_aside r).1] at hd
    exact hd)
  obtain ⟨hports, hcapture, -⟩ := State.ports_of_unidled (State.unidled_recogniseRecord h)
  exact ⟨hports, hcapture.trans (s.tallied_aside r).2.1⟩

theorem State.unrecognised_port (p : Port) :
    (((s.tallied r).recogniseRecord r).port p).fwd = (s.port p).fwd ∧
      (((s.tallied r).recogniseRecord r).port p).active = (s.port p).active ∧
      (((s.tallied r).recogniseRecord r).port p).forwardSkipped = (s.port p).forwardSkipped ∧
      (((s.tallied r).recogniseRecord r).port p).forwardDrop = (s.port p).forwardDrop := by
  have hport : ((s.tallied r).recogniseRecord r).port p = (s.tallied r).port p := by
    rw [State.port, (State.unrecognised hnone).1, State.port]
  rw [hport, State.tallied_port]
  split <;> exact ⟨rfl, rfl, rfl, rfl⟩

/-- A frame entry is offered to each port of the forward set. -/
theorem State.completed_forward (p : Port) :
    (((s.idleEngine.complete r).port p).fwd.filter FwdEntry.isFrame =
        (s.port p).fwd.filter FwdEntry.isFrame ++
          (if takenLive s r p then [FwdEntry.frame r.ident r.data false] else [])) ∧
      ((s.idleEngine.complete r).port p).forwardSkipped =
        (if forwardedTo s r p ∧ (s.port p).active = false then counted (s.port p).forwardSkipped
         else (s.port p).forwardSkipped) ∧
      ((s.idleEngine.complete r).port p).forwardDrop =
        (if forwardedTo s r p ∧ (s.port p).active = true ∧ 24 ≤ (s.port p).frameEntries then counted (s.port p).forwardDrop
         else (s.port p).forwardDrop) := by
  obtain ⟨-, -, -, hskipped, hdropped, hframes⟩ := PortUnit.calm_eq (s.completed_calm r p)
  obtain ⟨hfwd, hactive, hskip, hdrop⟩ := State.unrecognised_port hnone p
  have hentries : (((s.tallied r).recogniseRecord r).port p).frameEntries = (s.port p).frameEntries :=
    congrArg (List.countP FwdEntry.isFrame) hfwd
  have hoffer := PortUnit.offerForward_frames (((s.tallied r).recogniseRecord r).port p) (e := .frame r.ident r.data false) rfl
  rw [hskipped, hdropped, hframes, State.handled_port]
  by_cases hto : forwardedTo s r p
  · rw [if_pos (hasPort_forwards.mpr hto), hoffer.1, hoffer.2.1, hoffer.2.2, hfwd, hactive, hskip, hdrop, hentries]
    exact ⟨congrArg _ (if_congr (and_iff_right hto).symm rfl rfl), if_congr (and_iff_right hto).symm rfl rfl,
      if_congr (and_iff_right hto).symm rfl rfl⟩
  · rw [if_neg (fun h => hto (hasPort_forwards.mp h)), hfwd, hskip, hdrop]
    rw [if_neg (fun h => hto h.1), if_neg (fun h => hto h.1), if_neg (fun h => hto h.1), List.append_nil]
    exact ⟨rfl, rfl, rfl⟩

/-- The ports that take the frame live are judged as the evaluation begins. -/
theorem State.deliveredLive_eq :
    ((s.tallied r).recogniseRecord r).deliveredLive (s.forwards r) = portsWhere (fun p => takenLive s r p) := by
  refine portSet_ext (fun p => ?_)
  obtain ⟨hfwd, hactive, -⟩ := State.unrecognised_port hnone p
  have hentries : (((s.tallied r).recogniseRecord r).port p).frameEntries = (s.port p).frameEntries :=
    congrArg (List.countP FwdEntry.isFrame) hfwd
  rw [State.deliveredLive, hasPort_portSetWhere, hasPort_portsWhere, PortUnit.takesForward, hactive, hentries, Bool.eq_iff_iff,
    Bool.and_eq_true, hasPort_forwards, Bool.and_eq_true, decide_eq_true_iff, decide_eq_true_iff]

/-- The captures once the record has been recorded. -/
theorem State.handled_capture : (s.handled r).capture =
    if recordedBy s r then (s.recordFrame (frameOf s r)).capture else s.capture := by
  have hcapture := (State.unrecognised hnone).2
  obtain ⟨htable, hmode⟩ := s.table_recognised r
  have hrows : (fun i => ((s.tallied r).recogniseRecord r).engine.active.rows.get i) = activeRow s := funext (fun i => by
    rw [htable, activeRow])
  have hforwards : forwardSet ((s.matching r).map (activeRow s)) r = s.forwards r := rfl
  have hsent := (((s.tallied r).recogniseRecord r).forwardRecord_aside (s.forwards r) r).2.2.trans hcapture
  rw [State.handled, State.forwardAndRecord]
  rw [hrows, hmode, hforwards, State.deliveredLive_eq hnone, forwards_eq]
  rw [forwards_eq] at hsent
  by_cases hrec : recordedBy s r
  · rw [if_pos hrec, if_pos (recordFlag_iff.mpr hrec), State.recordFrame_capture hsent]
    rfl
  · rw [if_neg hrec, if_neg (fun h => hrec (recordFlag_iff.mp h)), hsent]

end

end Sys2Proof.Machine
end

section
/-! What the wakes of a completed evaluation do to the captures, while the ports follow the domains: no port changes its state,
and the buffer at the write pointer takes triggers (R5, R147). -/

namespace Sys2Proof.Machine

open Sys2Proof.Claims

variable {s t : State} {d : Domain}

/-! ### Triggers (R147) -/

/-- Buffer `b'` is buffer `b` after one or more triggers for domains attached by `at`. -/
structure Buffer.Triggered (post : Nat) (place : Domain → Port) (b b' : Buffer) : Prop where
  records  : recordsInto b
  state    : b'.state = .post
  postLeft : b'.postLeft = if b.state = .opened then post else b.postLeft
  pending  : ∀ p, hasPort b'.pending p = true →
    (b.state = .post ∧ hasPort b.pending p = true) ∨ ∃ d, hasDomain b'.woken d = true ∧ place d = p
  kept     : b.state = .post → (∀ p, hasPort b.pending p = true → hasPort b'.pending p = true) ∧
    ∀ d, hasDomain b.woken d = true → hasDomain b'.woken d = true

/-- A buffer after the triggers of some wakes. -/
def Buffer.Grew (post : Nat) (place : Domain → Port) (b b' : Buffer) : Prop := b' = b ∨ b.Triggered post place b'

theorem hasDomain_onlyDomain : ∀ d e : Domain, hasDomain (onlyDomain d) e = (e == d) := by decide

theorem hasDomain_or (a b : DomainSet) (d : Domain) : hasDomain (a ||| b) d = (hasDomain a d || hasDomain b d) :=
  BitVec.getLsbD_or

theorem Buffer.triggered_take {b : Buffer} (h : recordsInto b) (post : Nat) (place : Domain → Port) (d : Domain) (c : Cause) :
    b.Triggered post place (b.take post d (place d) c) := by
  unfold Buffer.take
  by_cases hopen : b.state = .opened
  · rw [if_pos hopen]
    refine ⟨h, rfl, (if_pos hopen).symm, fun p hp => .inr ⟨d, ?_, ?_⟩, fun hpost => by rw [hopen] at hpost; cases hpost⟩
    · rw [hasDomain_onlyDomain]; exact beq_self_eq_true d
    · rw [hasPort_onlyPort] at hp; exact (beq_iff_eq.mp hp).symm
  · rw [if_neg hopen]
    have hpost : b.state = .post := h.resolve_left hopen
    refine ⟨h, hpost, (if_neg hopen).symm, fun p hp => ?_, fun _ => ⟨fun p hp => ?_, fun e he => ?_⟩⟩
    · rw [hasPort_or, hasPort_onlyPort, Bool.or_eq_true, beq_iff_eq] at hp
      refine hp.imp (fun hp => ⟨hpost, hp⟩) (fun hp => ⟨d, ?_, hp.symm⟩)
      rw [hasDomain_or, hasDomain_onlyDomain, beq_self_eq_true, Bool.or_true]
    · rw [hasPort_or, hp, Bool.true_or]
    · rw [hasDomain_or, he, Bool.true_or]

theorem Buffer.Grew.trans {post : Nat} {place : Domain → Port} {a b c : Buffer} (h : a.Grew post place b) (k : b.Grew post place c) :
    a.Grew post place c := by
  rcases h with rfl | h
  · exact k
  · rcases k with rfl | k
    · exact .inr h
    · have hopen : b.state ≠ .opened := by rw [h.state]; decide
      obtain ⟨hpending, hwoken⟩ := k.kept h.state
      refine .inr ⟨h.records, k.state, by rw [k.postLeft, if_neg hopen, h.postLeft], fun p hp => ?_, fun hpost => ?_⟩
      · rcases k.pending p hp with ⟨-, hp⟩ | hd
        · exact (h.pending p hp).imp id (fun ⟨d, hd, hat⟩ => ⟨d, hwoken d hd, hat⟩)
        · exact .inr hd
      · obtain ⟨hpending', hwoken'⟩ := h.kept hpost
        exact ⟨fun p hp => hpending p (hpending' p hp), fun d hd => hwoken d (hwoken' d hd)⟩

/-! ### Wakes -/

/-- From `s` to `t` wakes have been made: the view of `State.calm` stands, the ports follow the domains, and the buffer at the
write pointer has taken triggers. -/
structure State.Wakes (s t : State) : Prop where
  calm   : t.calm = s.calm
  follow : t.PortsFollow
  others : ∀ j, j ≠ s.capture.writePtr → t.buffer j = s.buffer j
  grew   : (s.buffer s.capture.writePtr).Grew s.capture.post s.portOf (t.buffer s.capture.writePtr)

theorem State.portOf_of_calm (h : t.calm = s.calm) : t.portOf = s.portOf :=
  funext (fun d => congrArg DomainParams.port ((State.calm_eq_iff.mp h).2.2.1 d))

theorem State.mode_of_calm (h : t.calm = s.calm) : t.mode = s.mode :=
  congrArg (fun c => c.core.management.mode) h

theorem State.writePtr_of_calm (h : t.calm = s.calm) : t.capture.writePtr = s.capture.writePtr :=
  congrArg (fun c => c.store.2.2.1) h

theorem State.post_of_calm (h : t.calm = s.calm) : t.capture.post = s.capture.post := congrArg (fun c => c.store.2.1) h

theorem State.Wakes.refl (h : s.PortsFollow) : s.Wakes s := ⟨rfl, h, fun _ _ => rfl, .inl rfl⟩

theorem State.Wakes.trans {u : State} (h : s.Wakes t) (k : t.Wakes u) : s.Wakes u := by
  have hothers := k.others
  have hgrew := k.grew
  rw [State.writePtr_of_calm h.calm] at hothers hgrew
  rw [State.post_of_calm h.calm, State.portOf_of_calm h.calm] at hgrew
  exact ⟨k.calm.trans h.calm, k.follow, fun j hj => (hothers j hj).trans (h.others j hj), h.grew.trans hgrew⟩

/-- A change that shows neither in the captures nor in the states of the ports and domains. -/
theorem State.Wakes.same (hs : s.PortsFollow) (calm : t.calm = s.calm) (capture : t.capture = s.capture)
    (active : ∀ p, (t.port p).active = (s.port p).active)
    (states : ∀ d, (t.dom d).state.activates = (s.dom d).state.activates) : s.Wakes t :=
  ⟨calm, fun p => by
      rw [active, hs p, State.derivedActive_same (fun e => congrFun (State.portOf_of_calm calm) e) states (State.mode_of_calm calm)],
    fun j _ => by rw [State.buffer, capture, State.buffer], .inl (by rw [State.buffer, capture, State.buffer])⟩

theorem State.Wakes.foldl {α : Type} {f : State → α → State} (hf : ∀ (t : State) (a : α), t.PortsFollow → t.Wakes (f t a)) (l : List α)
    (hs : s.PortsFollow) : s.Wakes (l.foldl f s) := by
  induction l generalizing s with
  | nil => exact .refl hs
  | cons a l ih => exact (hf s a hs).trans (ih (hf s a hs).follow)

theorem State.Wakes.trigger (hs : s.PortsFollow) (d : Domain) (c : Cause) : s.Wakes (s.trigger d c) := by
  have hcalm := s.calm_trigger d c
  unfold State.trigger State.triggerBuffer at hcalm ⊢
  by_cases hrec : (s.buffer s.capture.writePtr).recording = true
  · rw [if_pos hrec] at hcalm ⊢
    have hrange : s.capture.writePtr < s.capture.buffers.length := by
      by_contra hout
      rw [State.buffer, List.getD_eq_getElem?_getD, List.getElem?_eq_none (by omega)] at hrec
      cases hrec
    refine ⟨hcalm, hs, fun j hj => State.buffer_updBuffer_ne _ _ hj, .inr ?_⟩
    dsimp only
    rw [State.buffer_updBuffer_self _ _ hrange]
    exact Buffer.triggered_take (by simpa [Buffer.recording] using hrec) _ s.portOf d c
  · rw [if_neg hrec]
    exact .refl hs

/-- A transition between two states of which both or neither keep the port ACTIVE. -/
theorem State.Wakes.enterState (hs : s.PortsFollow) {st : DomainState} (h : st.activates = (s.dom d).state.activates) :
    s.Wakes (s.enterState d st) := by
  have hstate : ∀ e, ((onDomain s d { s.dom d with state := st, enable := st.powered }).dom e).state.activates =
      (s.dom e).state.activates := fun e => by
    rw [onDomain_dom]
    split
    · next he => subst he; exact h
    · rfl
  have hcalm : (onDomain s d { s.dom d with state := st, enable := st.powered }).calm = s.calm :=
    s.calm_updDom (f := fun r => { r with state := st, enable := st.powered }) rfl
  have hsame := State.Wakes.same hs hcalm rfl (fun _ => rfl) hstate
  have hstill : s.enterState d st = onDomain s d { s.dom d with state := st, enable := st.powered } := by
    rw [State.enterState_eq]
    exact if_pos (hsame.follow (s.portOf d)).symm
  rw [hstill]
  exact hsame

theorem State.Wakes.noticeFrame (hs : s.PortsFollow) (calm : t.calm = s.calm) (h : s.NoticeFrame t) : s.Wakes t :=
  .same hs calm h.capture (fun p => by rw [h.port p]) (fun d => by rw [h.dom d])

theorem State.Wakes.updDom (hs : s.PortsFollow) (d : Domain) {f : DomainRec → DomainRec}
    (hp : (f (s.dom d)).params = (s.dom d).params) (hst : (f (s.dom d)).state = (s.dom d).state) : s.Wakes (s.updDom d f) :=
  .same hs (s.calm_updDom hp) rfl (fun _ => rfl) (fun e => by
    rw [State.dom_updDom]
    split
    · next he => subst he; rw [hst]
    · rfl)

theorem State.Wakes.updSlots (hs : s.PortsFollow) (f : SlotArbiter → SlotArbiter) : s.Wakes (s.updSlots f) :=
  .same hs (s.calm_updSlots f) rfl (fun _ => rfl) (fun _ => rfl)

theorem State.Wakes.returnAwake (hs : s.PortsFollow) (h : (s.dom d).state = .winding) (c : WakeClass) :
    s.Wakes (s.returnAwake d c) := by
  have hclass := State.Wakes.updDom hs d (f := fun r => { r with windTimer := none, sleepReason := none, wakeClass := some c })
    rfl rfl
  have htimers := State.Wakes.updDom hclass.follow d (f := fun r =>
    { r with
      minAwakeTimer := if r.params.minAwake = 0 then none else some r.params.minAwake
      idleTimer := .running r.params.idleTimeout }) rfl rfl
  have hawake := State.Wakes.enterState (d := d) htimers.follow (st := .awake) (by
    rw [State.dom_updDom_self, State.dom_updDom_self]
    exact (congrArg DomainState.activates h).symm)
  have hentered := (hclass.trans htimers).trans hawake
  have hnotice := State.noticeFrame_noticeAtReturn (((s.updDom d (fun r =>
    { r with windTimer := none, sleepReason := none, wakeClass := some c })).updDom d (fun r =>
      { r with
        minAwakeTimer := if r.params.minAwake = 0 then none else some r.params.minAwake
        idleTimer := .running r.params.idleTimeout })).enterState d .awake) d
  exact hentered.trans (.noticeFrame hentered.follow ((s.calm_returnAwake d c).trans hentered.calm.symm) hnotice)

theorem State.Wakes.admitted (hs : s.PortsFollow) (h : (s.dom d).state = .asleep ∨ (s.dom d).state = .winding) (c : WakeClass) :
    s.Wakes (s.admitted d c) := by
  unfold State.admitted
  split
  · next hw => exact .returnAwake hs hw c
  · next hw =>
    have hasleep : (s.dom d).state = .asleep := h.resolve_right hw
    have hclass := State.Wakes.updDom hs d (f := fun r => { r with wakeClass := some c, retriesUsed := 0 }) rfl rfl
    have hqueued := State.Wakes.enterState (d := d) hclass.follow (st := .queued) (by
      rw [State.dom_updDom_self]
      exact (congrArg DomainState.activates hasleep).symm)
    exact (hclass.trans hqueued).trans (.updSlots hqueued.follow _)

theorem State.Wakes.merged (hs : s.PortsFollow) (d : Domain) (c : WakeClass) : s.Wakes (s.merged d c) := by
  have hclass := State.Wakes.updDom hs d (f := fun r => { r with wakeClass := some (mergedClass (s.dom d).wakeClass c) }) rfl rfl
  unfold State.merged
  dsimp only
  split
  · exact hclass.trans (.updSlots hclass.follow _)
  · exact hclass.trans (.updDom hclass.follow d rfl rfl)
  · exact hclass

theorem State.Wakes.wakeRequest (hs : s.PortsFollow) (d : Domain) (c : WakeClass) (cause : Cause) :
    s.Wakes (s.wakeRequest d c cause) := by
  have htoken : s.Wakes (if s.consumes c (s.judge d c) = true then s.consumeToken d else s) := by
    split
    · exact .same hs (State.calm_aside rfl rfl rfl rfl) rfl (fun _ => rfl) (fun _ => rfl)
    · exact .refl hs
  have hsettled : s.Wakes (s.settleAdmission d c cause (s.judge d c)) := by
    refine htoken.trans ?_
    unfold State.settleAdmission
    dsimp only
    generalize (if s.consumes c (s.judge d c) = true then s.consumeToken d else s) = u at htoken ⊢
    split
    · exact .trigger htoken.follow d cause
    · exact .refl htoken.follow
  have hwritten : s.Wakes ((s.settleAdmission d c cause (s.judge d c)).writeCause d cause c (s.judge d c)
      (s.namedBuffer (s.judge d c))) :=
    hsettled.trans (.same hsettled.follow (State.calm_aside rfl rfl rfl rfl) rfl (fun _ => rfl) (fun _ => rfl))
  have hstate : ∀ o j, (((s.settleAdmission d c cause o).writeCause d cause c o j).dom d).state = (s.dom d).state := fun o j =>
    congrArg DomainRec.state (State.dom_of_domains (s.settleAdmission_domains d c cause o) d)
  unfold State.wakeRequest State.actOn
  dsimp only
  split
  · next ho =>
    refine hwritten.trans (.admitted hwritten.follow ?_ c)
    rw [hstate]
    exact State.judge_admitted ho
  · exact hwritten.trans (.merged hwritten.follow d c)
  · exact hwritten

theorem State.Wakes.wakesOf (hs : s.PortsFollow) (ixs : List RowIx) : s.Wakes (s.wakesOf ixs) := by
  have request : ∀ (q : Prop) [Decidable q] (u : State) (e : Domain) (c : WakeClass) (cause : Cause), u.PortsFollow →
      u.Wakes (if q then u.wakeRequest e c cause else u) := fun q _ u e c cause hu => by
    split
    · exact .wakeRequest hu e c cause
    · exact .refl hu
  have hdirect : ∀ (u : State) (e : Domain), u.PortsFollow → u.Wakes (u.directWake ixs e) := fun u e hu => by
    unfold State.directWake
    dsimp only
    split
    · split
      · exact .wakeRequest hu e _ _
      · exact .refl hu
    · exact .refl hu
  have hset : ∀ (u : State) (g : GroupIx) (l : List Contribution), u.PortsFollow → u.Wakes (u.setContributions g l) :=
    fun u g l hu => .same hu (u.calm_setContributions g l) rfl (fun _ => rfl) (fun _ => rfl)
  have hrow : ∀ (u : State) (i : RowIx), u.PortsFollow → u.Wakes (u.contributeRow i) := fun u i hu => by
    unfold State.contributeRow
    split
    · unfold State.takeContribution
      dsimp only
      split
      · split
        · exact (hset u _ _ hu).trans (.foldl (fun v e hv => request (hasDomain _ e = true) v e _ _ hv) _ (hset u _ _ hu).follow)
        · exact hset u _ _ hu
      · exact .refl hu
    · exact .refl hu
  have hdone : s.Wakes (s.eachDomain (fun s d => s.directWake ixs d)) := .foldl hdirect _ hs
  exact hdone.trans (.foldl hrow ixs hdone.follow)

end Sys2Proof.Machine
end

section
/-! Recording and closing at a completed evaluation (R145, R148), and O49. -/

namespace Sys2Proof.Machine

open Sys2Proof.Claims

variable {s t : State} {r : FrameRecord}

/-! ### Closing (R148) -/

theorem four_le_bufferCount : ∀ m : Fin 4, 4 ≤ bufferCount m := by decide

theorem nextBuffer_ne {w n : Nat} (hw : w < n) (hn : 4 ≤ n) : (w + 1) % n ≠ w ∧ (w + 1) % n < n := by
  refine ⟨?_, Nat.mod_lt _ (by omega)⟩
  by_cases h : w + 1 < n
  · rw [Nat.mod_eq_of_lt h]; omega
  · rw [show w + 1 = n by omega, Nat.mod_self]; omega

/-- A buffer that closes. -/
theorem Buffer.close_eq (b : Buffer) (now : BitVec 32) : b.close now = closedBuffer b now := by
  have hpending : portSetWhere (fun p => hasPort b.pending p && decide (b.dueCount p ≠ 0)) =
      portsWhere (fun p => hasPort b.pending p && dueOn b p != 0) := by
    rw [portSetWhere_eq]
    refine congrArg portsWhere (funext (fun p => ?_))
    rw [Buffer.dueCount_eq_dueOn, bne, Bool.beq_eq_decide_eq, decide_not]
  unfold Buffer.close Buffer.settle closedBuffer
  rw [hpending]
  dsimp only
  split
  · next h => rw [if_pos h.2]
  · next h => rw [if_neg (fun h0 => h ⟨rfl, h0⟩)]

/-- The buffer at the write pointer, the pointer and the next buffer after a closing in PARK. -/
theorem State.closeBuffer_eq (hlen : s.capture.buffers.length = bufferCount s.capture.mode)
    (hw : s.capture.writePtr < bufferCount s.capture.mode) (hpark : s.mode = .park) :
    s.closeBuffer.buffer s.capture.writePtr = closedBuffer (s.buffer s.capture.writePtr) s.clock ∧
      s.closeBuffer.capture.writePtr = s.nextBuffer s.capture.writePtr ∧
      s.closeBuffer.buffer (s.nextBuffer s.capture.writePtr) =
        if (s.buffer (s.nextBuffer s.capture.writePtr)).state = .free then
          { s.buffer (s.nextBuffer s.capture.writePtr) with state := .opened, epoch := s.management.epoch }
        else s.buffer (s.nextBuffer s.capture.writePtr) := by
  obtain ⟨hne, hnext⟩ := nextBuffer_ne hw (four_le_bufferCount s.capture.mode)
  rw [← State.nextBuffer] at hne hnext
  generalize hn : s.nextBuffer s.capture.writePtr = next at hne hnext ⊢
  obtain ⟨u, hu⟩ : ∃ u : State, u = { s.updBuffer s.capture.writePtr (fun b => b.close s.clock) with
      capture := { (s.updBuffer s.capture.writePtr (fun b => b.close s.clock)).capture with writePtr := next } } := ⟨_, rfl⟩
  have hulen : next < u.capture.buffers.length := by
    rw [hu]
    exact Nat.lt_of_lt_of_eq hnext (hlen.symm.trans (List.length_modify _ _ _).symm)
  have hself : u.buffer s.capture.writePtr = closedBuffer (s.buffer s.capture.writePtr) s.clock := by
    rw [hu, ← Buffer.close_eq]
    exact State.buffer_updBuffer_self s _ (Nat.lt_of_lt_of_eq hw hlen.symm)
  have hother : u.buffer next = s.buffer next := by rw [hu]; exact State.buffer_updBuffer_ne s _ hne
  have hclose : s.closeBuffer = if (u.buffer next).state = .free then
      u.updBuffer next (fun b => { b with state := .opened, epoch := s.management.epoch }) else u := by
    rw [State.closeBuffer, hn, ← hu, State.openBuffer]
    have hmode : u.mode = .park := by rw [hu]; exact hpark
    have hptr : u.capture.writePtr = next := by rw [hu]
    have hepoch : u.management.epoch = s.management.epoch := by rw [hu]; rfl
    rw [hmode, hptr, hepoch]
    simp only [true_and]
  rw [hclose, hother]
  split
  · next h =>
    refine ⟨(State.buffer_updBuffer_ne u _ hne.symm).trans hself, by rw [hu]; rfl, ?_⟩
    rw [State.buffer_updBuffer_self u _ hulen, hother]
  · exact ⟨hself, by rw [hu], hother⟩

/-- A closing in the claims' words, of a buffer that has taken what wakes bring. -/
theorem State.closesTo {u : State} (hlen : u.capture.buffers.length = bufferCount s.capture.mode)
    (hw : s.capture.writePtr < bufferCount s.capture.mode) (hpark : u.mode = .park) (hmode : u.capture.mode = s.capture.mode)
    (hptr : u.capture.writePtr = s.capture.writePtr) (hmanagement : u.management = s.management)
    (hothers : ∀ j, j ≠ s.capture.writePtr → u.buffer j = s.buffer j)
    (hpending : ∀ p, hasPort (u.buffer s.capture.writePtr).pending p = true →
      hasPort (s.buffer s.capture.writePtr).pending p = true ∨
        ∃ d : Domain, hasDomain (u.buffer s.capture.writePtr).woken d = true ∧ s.portOf d = p) :
    ClosesTo s u.closeBuffer ∧
      ∀ p, hasPort (u.buffer s.capture.writePtr).pending p = true →
        dueOn (u.closeBuffer.buffer s.capture.writePtr) p ≠ 0 →
          hasPort (u.closeBuffer.buffer s.capture.writePtr).pending p = true := by
  have hclose := State.closeBuffer_eq (s := u) (by rw [hmode]; exact hlen) (by rw [hmode, hptr]; exact hw) hpark
  have hnext : u.nextBuffer s.capture.writePtr = (s.capture.writePtr + 1) % (32 / 2 ^ s.capture.mode.val) := by
    rw [State.nextBuffer, hmode]; rfl
  rw [hptr, hnext] at hclose
  obtain ⟨hbuffer, hpointer, hopened⟩ := hclose
  have hbeyond := hothers ((s.capture.writePtr + 1) % (32 / 2 ^ s.capture.mode.val))
    (nextBuffer_ne hw (four_le_bufferCount s.capture.mode)).1
  rw [hbeyond, hmanagement] at hopened
  have hmember : ∀ p, hasPort (closedBuffer (u.buffer s.capture.writePtr) u.clock).pending p =
      (hasPort (u.buffer s.capture.writePtr).pending p && dueOn (u.buffer s.capture.writePtr) p != 0) := fun p =>
    hasPort_portsWhere _ p
  rw [ClosesTo, hbuffer]
  refine ⟨⟨rfl, rfl, congrArg Management.clock hmanagement, fun p hp => ?_, hpointer, hopened⟩, fun p hp hdue => ?_⟩
  · rw [hmember, Bool.and_eq_true] at hp
    exact ⟨(bne_iff_ne.mp hp.2 : dueOn (u.buffer s.capture.writePtr) p ≠ 0), hpending p hp.1⟩
  · rw [hmember, hp, Bool.true_and]
    exact bne_iff_ne.mpr hdue

/-! ### The captures at the end of a completed evaluation -/

/-- Every buffer that is OPEN or POST has a place in the store. -/
theorem State.recordsInto_range {j : Nat} (h : recordsInto (s.buffer j)) : j < s.capture.buffers.length := by
  by_contra hout
  rw [State.buffer, List.getD_eq_getElem?_getD, List.getElem?_eq_none (by omega)] at h
  rcases h with h | h <;> cases h

theorem Buffer.recording_iff (b : Buffer) : b.recording = true ↔ recordsInto b := by simp [Buffer.recording]

/-- From `s` to `t` the record has been recorded where it is to be, and the captures stand otherwise. -/
structure State.Records (s : State) (r : FrameRecord) (t : State) : Prop where
  writePtr : t.capture.writePtr = s.capture.writePtr
  mode     : t.capture.mode = s.capture.mode
  post     : t.capture.post = s.capture.post
  length   : t.capture.buffers.length = s.capture.buffers.length
  loss     : t.capture.loss =
    if recordedBy s r ∧ ¬recordsInto (s.buffer s.capture.writePtr) then counted s.capture.loss else s.capture.loss
  others   : ∀ j, j ≠ s.capture.writePtr → t.buffer j = s.buffer j
  written  : recordsInto (s.buffer s.capture.writePtr) →
    t.buffer s.capture.writePtr =
      if recordedBy s r then (s.buffer s.capture.writePtr).write (bufferSize s.capture.mode) (frameOf s r)
      else s.buffer s.capture.writePtr

theorem State.Records.of_capture {u : State} (h : s.Records r t) (hc : u.capture = t.capture) : s.Records r u := by
  have hbuffer : ∀ j, u.buffer j = t.buffer j := fun j => by rw [State.buffer, hc, State.buffer]
  exact ⟨by rw [hc]; exact h.writePtr, by rw [hc]; exact h.mode, by rw [hc]; exact h.post, by rw [hc]; exact h.length,
    by rw [hc]; exact h.loss, fun j hj => (hbuffer j).trans (h.others j hj), fun hi => (hbuffer _).trans (h.written hi)⟩

theorem State.records_recordFrame (hrec : recordedBy s r) : s.Records r (s.recordFrame (frameOf s r)) := by
  unfold State.recordFrame
  by_cases hinto : recordsInto (s.buffer s.capture.writePtr)
  · rw [if_pos ((Buffer.recording_iff _).mpr hinto)]
    refine ⟨rfl, rfl, rfl, List.length_modify _ _ _, (if_neg (fun h => h.2 hinto)).symm,
      fun j hj => State.buffer_updBuffer_ne s _ hj, fun _ => ?_⟩
    rw [if_pos hrec, State.buffer_updBuffer_self s _ (State.recordsInto_range hinto)]
  · rw [if_neg (fun h => hinto ((Buffer.recording_iff _).mp h))]
    exact ⟨rfl, rfl, rfl, rfl, (if_pos ⟨hrec, hinto⟩).symm, fun _ _ => rfl, fun h => absurd h hinto⟩

theorem State.records_handled (hnone : ∀ d, ¬recognisedBy s r d) : s.Records r (s.handled r) := by
  have hcapture := State.handled_capture hnone
  by_cases hrec : recordedBy s r
  · rw [if_pos hrec] at hcapture
    exact (State.records_recordFrame hrec).of_capture hcapture
  · rw [if_neg hrec] at hcapture
    have hself : s.Records r s := ⟨rfl, rfl, rfl, rfl, (if_neg (fun h => hrec h.1)).symm, fun _ _ => rfl,
      fun _ => (if_neg hrec).symm⟩
    exact hself.of_capture hcapture

/-! ### The buffer at the write pointer -/

/-- Counting, forwarding and recording leave the port states in agreement with the domains. -/
theorem State.handled_follow (hnone : ∀ d, ¬recognisedBy s r d) (hs : s.PortsFollow) :
    (s.handled r).PortsFollow ∧ (s.handled r).portOf = s.portOf := by
  have hunidled : ((s.tallied r).recogniseRecord r).unidled = (s.tallied r).unidled :=
    State.unidled_recogniseRecord (fun d hd => hnone d (by
      rw [recognisedBy, State.portOf, State.dom_of_domains (s.tallied_aside r).1] at hd
      exact hd))
  have hdomains : (s.handled r).domains = ((s.tallied r).recogniseRecord r).domains := by
    rw [State.handled]
    unfold State.forwardAndRecord
    dsimp only
    split
    · rw [State.recordFrame_domains, (State.forwardRecord_aside _ _ _).2.1]
    · exact (State.forwardRecord_aside _ _ _).2.1
  have hdom : ∀ d, ((s.handled r).dom d).state = (s.dom d).state ∧ ((s.handled r).dom d).params = (s.dom d).params := fun d => by
    rw [State.dom_of_domains hdomains, ← State.dom_of_domains (s.tallied_aside r).1 d]
    have := State.unidled_dom hunidled d
    injection this with hparams hstate
    exact ⟨hstate, hparams⟩
  have hportOf : ∀ d, (s.handled r).portOf d = s.portOf d := fun d => congrArg DomainParams.port (hdom d).2
  have hmode : (s.handled r).mode = s.mode := by
    have := congrArg (fun x : Fixed => x.management.mode) (s.handled_fixed r)
    exact this.trans (s.table_recognised r).2
  refine ⟨fun p => ?_, funext hportOf⟩
  have hactive : ((s.handled r).port p).active = (s.port p).active := by
    rw [State.handled_port]
    split
    · rw [(PortUnit.offerForward_keeps _ _).2.2.2, (State.unrecognised_port hnone p).2.1]
    · exact (State.unrecognised_port hnone p).2.1
  rw [hactive, hs p]
  exact (State.derivedActive_same hportOf (fun d => congrArg DomainState.activates (hdom d).1) hmode p).symm

/-- A buffer in POST after the wakes of an evaluation. -/
theorem Buffer.Grew.of_post {post : Nat} {place : Domain → Port} {b b' : Buffer} (h : b.Grew post place b') (hb : b.state = .post) :
    b'.state = .post ∧ b'.postLeft = b.postLeft ∧
      (∀ p, hasPort b'.pending p = true →
        hasPort b.pending p = true ∨ ∃ d, hasDomain b'.woken d = true ∧ place d = p) ∧
      ∀ p, hasPort b.pending p = true → hasPort b'.pending p = true := by
  rcases h with rfl | h
  · exact ⟨hb, rfl, fun p hp => .inl hp, fun p hp => hp⟩
  · refine ⟨h.state, by rw [h.postLeft, if_neg (by rw [hb]; decide)], fun p hp => ?_, (h.kept hb).1⟩
    exact (h.pending p hp).imp (fun hp => hp.2) id

/-- The state before the closing of a completed evaluation, as the captures see it. -/
structure State.Ready (s : State) (r : FrameRecord) (u : State) : Prop where
  writePtr   : u.capture.writePtr = s.capture.writePtr
  mode       : u.capture.mode = s.capture.mode
  length     : u.capture.buffers.length = s.capture.buffers.length
  management : u.management = s.management
  others     : ∀ j, j ≠ s.capture.writePtr → u.buffer j = s.buffer j
  grew       : ((s.handled r).buffer s.capture.writePtr).Grew s.capture.post s.portOf (u.buffer s.capture.writePtr)

theorem State.ready_wakesOf (hnone : ∀ d, ¬recognisedBy s r d) (hs : s.PortsFollow) :
    s.Ready r ((s.handled r).wakesOf (s.matching r)) := by
  have recorded := State.records_handled hnone
  obtain ⟨hfollow, hportOf⟩ := State.handled_follow hnone hs
  have wakes := State.Wakes.wakesOf hfollow (s.matching r)
  have hothers := wakes.others
  have hgrew := wakes.grew
  rw [recorded.writePtr] at hothers hgrew
  rw [recorded.post, hportOf] at hgrew
  have hmanagement : (s.handled r).management = s.management :=
    congrArg Fixed.management ((s.handled_fixed r).trans (((s.tallied r).recogniseRecord_fixed r).trans (s.tallied_aside r).2.2))
  exact ⟨(State.writePtr_of_calm wakes.calm).trans recorded.writePtr,
    (congrArg (fun c : Calm => c.store.1) wakes.calm).trans recorded.mode,
    (congrArg (fun c : Calm => c.store.2.2.2.2) wakes.calm).trans recorded.length,
    (congrArg (fun c : Calm => c.core.management) wakes.calm).trans hmanagement,
    fun j hj => (hothers j hj).trans (recorded.others j hj), hgrew⟩

/-- The buffer at the write pointer once the record has been recorded. -/
theorem State.handled_buffer (hnone : ∀ d, ¬recognisedBy s r d) (hinto : recordsInto (s.buffer s.capture.writePtr)) :
    ((s.handled r).buffer s.capture.writePtr).state = (s.buffer s.capture.writePtr).state ∧
      ((s.handled r).buffer s.capture.writePtr).pending = (s.buffer s.capture.writePtr).pending ∧
      ((s.buffer s.capture.writePtr).state = .post →
        ((s.handled r).buffer s.capture.writePtr).postLeft = postAfter s r) := by
  rw [(State.records_handled hnone).written hinto, postAfter]
  split
  · obtain ⟨hstate, hpending, -, hleft⟩ :=
      (s.buffer s.capture.writePtr).write_post (bufferSize s.capture.mode) (frameOf s r)
    exact ⟨hstate, hpending, fun hpost => hleft.trans (if_pos hpost)⟩
  · exact ⟨rfl, rfl, fun _ => rfl⟩

/-- A buffer that is POST with its post frames complete closes, and any other stays. -/
theorem State.Ready.closeIfComplete {u : State} (h : s.Ready r u) :
    u.closeIfComplete = if (u.buffer s.capture.writePtr).state = .post ∧ (u.buffer s.capture.writePtr).postLeft = 0 then
      u.closeBuffer else u := by
  rw [State.closeIfComplete, h.writePtr]

/-- A closing at the end of the evaluation. -/
theorem State.Ready.closesTo {u : State} (h : s.Ready r u) (hstore : s.StoreFits) (hpark : s.mode = .park)
    (hpending : ∀ p, hasPort (u.buffer s.capture.writePtr).pending p = true →
      hasPort (s.buffer s.capture.writePtr).pending p = true ∨
        ∃ d : Domain, hasDomain (u.buffer s.capture.writePtr).woken d = true ∧ s.portOf d = p) :
    ClosesTo s u.closeBuffer ∧
      ∀ p, hasPort (u.buffer s.capture.writePtr).pending p = true →
        dueOn (u.closeBuffer.buffer s.capture.writePtr) p ≠ 0 →
          hasPort (u.closeBuffer.buffer s.capture.writePtr).pending p = true :=
  State.closesTo (h.length.trans hstore.1) hstore.2.1 ((congrArg Management.mode h.management).trans hpark) h.mode h.writePtr
    h.management h.others hpending

/-- A POST buffer counts the frame recorded, and closes once it waits for none. -/
theorem State.Ready.post {u : State} (h : s.Ready r u) (hnone : ∀ d, ¬recognisedBy s r d) (hstore : s.StoreFits)
    (hpark : s.mode = .park) (hpost : (s.buffer s.capture.writePtr).state = .post) :
    (postAfter s r ≠ 0 →
      (u.closeIfComplete.buffer s.capture.writePtr).state = .post ∧
        (u.closeIfComplete.buffer s.capture.writePtr).postLeft = postAfter s r ∧
        u.closeIfComplete.capture.writePtr = s.capture.writePtr) ∧
    (postAfter s r = 0 → ClosesTo s u.closeIfComplete ∧
      ∀ p : Port, hasPort (s.buffer s.capture.writePtr).pending p = true →
        dueOn (u.closeIfComplete.buffer s.capture.writePtr) p ≠ 0 →
          hasPort (u.closeIfComplete.buffer s.capture.writePtr).pending p = true) := by
  obtain ⟨hstate, hpending, hleft⟩ := State.handled_buffer hnone (.inr hpost)
  obtain ⟨hstate', hleft', hfrom, hto⟩ := h.grew.of_post (hstate.trans hpost)
  rw [hleft hpost] at hleft'
  rw [hpending] at hfrom hto
  rw [h.closeIfComplete, hleft']
  refine ⟨fun hne => ?_, fun hzero => ?_⟩
  · rw [if_neg (fun hc => hne hc.2)]
    exact ⟨hstate', hleft', h.writePtr⟩
  · rw [if_pos ⟨hstate', hzero⟩]
    obtain ⟨hcloses, hkept⟩ := h.closesTo hstore hpark hfrom
    exact ⟨hcloses, fun p hp => hkept p (hto p hp)⟩

/-- An OPEN buffer that is triggered waits for Npost frames, and closes at once where Npost is 0. -/
theorem State.Ready.opened {u : State} (h : s.Ready r u) (hnone : ∀ d, ¬recognisedBy s r d) (hstore : s.StoreFits)
    (hpark : s.mode = .park) (hopen : (s.buffer s.capture.writePtr).state = .opened) :
    ((u.closeIfComplete.buffer s.capture.writePtr).state = .opened ∧
        u.closeIfComplete.capture.writePtr = s.capture.writePtr) ∨
      (s.capture.post ≠ 0 ∧ (u.closeIfComplete.buffer s.capture.writePtr).state = .post ∧
        (u.closeIfComplete.buffer s.capture.writePtr).postLeft = s.capture.post ∧
        u.closeIfComplete.capture.writePtr = s.capture.writePtr) ∨
      (s.capture.post = 0 ∧ ClosesTo s u.closeIfComplete) := by
  have hstate := (State.handled_buffer hnone (.inl hopen)).1.trans hopen
  rw [h.closeIfComplete]
  rcases h.grew with hsame | htriggered
  · have hstay : (u.buffer s.capture.writePtr).state = .opened := by rw [hsame]; exact hstate
    rw [if_neg (fun hc => by rw [hstay] at hc; cases hc.1)]
    exact .inl ⟨hstay, h.writePtr⟩
  · have hleft : (u.buffer s.capture.writePtr).postLeft = s.capture.post := htriggered.postLeft.trans (if_pos hstate)
    refine .inr ?_
    by_cases hzero : s.capture.post = 0
    · rw [if_pos ⟨htriggered.state, hleft.trans hzero⟩]
      refine .inr ⟨hzero, (h.closesTo hstore hpark (fun p hp => .inr ?_)).1⟩
      exact (htriggered.pending p hp).resolve_left (fun hc => by rw [hstate] at hc; cases hc.1)
    · rw [if_neg (fun hc => hzero (hleft.symm.trans hc.2))]
      exact .inl ⟨hzero, htriggered.state, hleft, h.writePtr⟩

/-- The frames of the buffer at the write pointer at the end of the evaluation. -/
theorem State.completed_frames (hnone : ∀ d, ¬recognisedBy s r d) (hstore : s.StoreFits)
    (hinto : recordsInto (s.buffer s.capture.writePtr)) :
    if recordedBy s r then
      ((s.idleEngine.complete r).buffer s.capture.writePtr).stop =
          some (nextSlot (s.buffer s.capture.writePtr) (16 * 2 ^ s.capture.mode.val)) ∧
        ((s.idleEngine.complete r).buffer s.capture.writePtr).slots =
          (s.buffer s.capture.writePtr).slots.take (nextSlot (s.buffer s.capture.writePtr) (16 * 2 ^ s.capture.mode.val)) ++
            frameOf s r ::
              (s.buffer s.capture.writePtr).slots.drop
                (nextSlot (s.buffer s.capture.writePtr) (16 * 2 ^ s.capture.mode.val) + 1)
    else ((s.idleEngine.complete r).buffer s.capture.writePtr).slots = (s.buffer s.capture.writePtr).slots ∧
      ((s.idleEngine.complete r).buffer s.capture.writePtr).stop = (s.buffer s.capture.writePtr).stop := by
  have hfits : (s.buffer s.capture.writePtr).FramesFit (bufferSize s.capture.mode) := by
    have hrange := State.recordsInto_range hinto
    refine hstore.2.2.2.2 _ ?_
    rw [State.buffer, List.getD_eq_getElem _ _ hrange]
    exact List.getElem_mem hrange
  obtain ⟨hslots, hstop⟩ := ((s.handled r).wakesOf (s.matching r)).closeIfComplete_kept.2 s.capture.writePtr
  obtain ⟨hslots', hstop'⟩ := (State.calm_eq_iff.mp ((s.handled r).calm_wakesOf (s.matching r))).2.2.2.2 s.capture.writePtr
  rw [State.complete_eq, hslots, hstop, hslots', hstop', (State.records_handled hnone).written hinto]
  split
  · exact Buffer.write_slots hfits (frameOf s r)
  · exact ⟨rfl, rfl⟩

theorem State.completed_loss (hnone : ∀ d, ¬recognisedBy s r d) :
    (s.idleEngine.complete r).capture.loss =
      if recordedBy s r ∧ ¬recordsInto (s.buffer s.capture.writePtr) then counted s.capture.loss else s.capture.loss := by
  rw [State.complete_eq, State.closeIfComplete_kept _ |>.1, ← (State.records_handled hnone).loss]
  exact congrArg (fun c : Calm => c.store.2.2.2.1) ((s.handled r).calm_wakesOf (s.matching r))

end Sys2Proof.Machine

open Sys2Proof Sys2Proof.Machine Sys2Proof.Claims

/-- Settles O49, by the stages of the completion: counting, recognition, forwarding and recording, wakes, closing. -/
theorem completionCountsForwardsAndRecords : Obligations.CompletionCountsForwardsAndRecords := by
  have hexec : ∀ (s : State) (r : FrameRecord), s.engine.inFlight = some r →
      exec .evaluationCompletion s = .next (s.idleEngine.complete r) := fun s r h => by
    simp only [exec, execEvaluationCompletion, h]
  refine ⟨fun s h => ⟨s, by simp only [exec, execEvaluationCompletion, h], rfl⟩,
    fun s r h => ⟨_, hexec s r h, ?_⟩, fun s r h hnone => ⟨_, hexec s r h, ?_⟩⟩
  · have hcore := s.completed_core r
    have hengine := congrArg Fixed.engine hcore
    refine ⟨?_, fun i => ?_, s.completed_receive r, congrArg Fixed.management hcore, congrArg Fixed.pointer hcore,
      congrArg Fixed.lineUnit hcore, congrArg Fixed.timerUnit hcore, congrArg Fixed.timeBase hcore,
      congrArg Fixed.pending hcore⟩
    · rw [show (s.idleEngine.complete r).engine = _ from hengine]
      rfl
    · rw [show (s.idleEngine.complete r).engine = _ from hengine]
      exact s.idleEngine.countHits_hits r i
  · refine ⟨State.completed_forward hnone, State.completed_loss hnone, fun hstore hinto => ?_, fun hstore hrecording hfollow => ?_⟩
    · exact State.completed_frames hnone hstore hinto
    · have ready := State.ready_wakesOf hnone hfollow
      have hpark : recordsInto (s.buffer s.capture.writePtr) → s.mode = .park := fun hinto =>
        (hrecording.1 _ hstore.2.1 ((Buffer.recording_iff _).mpr hinto)).2
      rw [State.complete_eq]
      exact ⟨fun hpost => ready.post hnone hstore (hpark (.inr hpost)) hpost,
        fun hopen => ready.opened hnone hstore (hpark (.inl hopen)) hopen⟩

end

section
/-! What a command does to the tables of the Match Engine (O4, O7): it leaves them, it changes the latch, the staging copy, the
protect boundary or the commit-pending flag, it completes a commit, or it resets the engine (R36 to R42). -/

namespace Sys2Proof.Machine

variable {s t u : State}

/-! ### The changes -/

/-- The engine but for the hit counts and the record in flight: the two copies, the latch, the flag and the boundary. -/
def Engine.held (e : Engine) : Engine := { e with hits := Tab.replicate 128 0, inFlight := none }

/-- The parts of two engines with the same tables. -/
theorem Engine.held_eq {e e' : Engine} (h : e'.held = e.held) :
    e'.active = e.active ∧ e'.staging = e.staging ∧ e'.latch = e.latch ∧ e'.commitPending = e.commitPending ∧
      e'.boundary = e.boundary := by
  simp only [Engine.held, Engine.mk.injEq, true_and, and_true] at h
  exact h

/-- The changes of an engine that leave its active table. -/
inductive Engine.Change (e : Engine) : Engine → Prop
  /-- Nothing changes. -/
  | same : e.Change e
  /-- The latch is written; it stays set while a commit is pending (R38). -/
  | latch (b : Bool) (hb : e.commitPending = true → b = true) : e.Change { e with latch := b }
  /-- The staging copy is written, but for its protected rows (R36, R37). -/
  | stage (x : Table) (hx : ∀ i : RowIx, i.val < e.boundary → x.rows.get i = e.staging.rows.get i) :
      e.Change { e with staging := x }
  /-- The boundary rises, and the rows that come below it are restored (R42). -/
  | protect (n : Nat) (hn : e.boundary ≤ n) :
      e.Change { e with
        boundary := n
        staging := { e.staging with rows := protectRows e.active.rows e.staging.rows e.boundary n } }
  /-- A commit becomes pending; the latch is set (R39). -/
  | pend (hl : e.latch = true) : e.Change { e with commitPending := true }

/-- What one command can do to the tables. -/
inductive State.TableStep (s t : State) : Prop
  /-- The active table stands. -/
  | change (e : Engine) (he : s.engine.Change e) (h : t.engine.held = e.held)
  /-- A commit completes (R41). -/
  | commit (h : t.engine.held = { s.engine with active := s.engine.staging, latch := false, commitPending := false }.held)
      (hits : t.engine.hits = Tab.replicate 128 0) (lists : t.contributions = Tab.replicate 8 [])
  /-- A reset (R173). -/
  | reset (h : t.engine = Engine.atReset)

theorem State.TableStep.same (h : t.engine.held = s.engine.held) : s.TableStep t := .change _ .same h

theorem State.TableStep.of_engine (h : t.engine = s.engine) : s.TableStep t := .same (congrArg Engine.held h)

theorem State.TableStep.of_fixed (h : t.fixed = s.fixed) : s.TableStep t := .of_engine (State.engine_of_fixed h)

/-- What precedes the change leaves the engine. -/
theorem State.TableStep.after (h : u.TableStep t) (hu : u.engine = s.engine) : s.TableStep t := by
  cases h with
  | change e he h => exact .change e (hu ▸ he) h
  | commit h hits lists => exact .commit (hu ▸ h) hits lists
  | reset h => exact .reset h

/-- What follows the change leaves the engine and the contribution lists. -/
theorem State.TableStep.before (h : s.TableStep t) (hu : u.engine = t.engine) (hl : u.contributions = t.contributions) :
    s.TableStep u := by
  cases h with
  | change e he h => exact .change e he (by rw [hu, h])
  | commit h hits lists => exact .commit (by rw [hu, h]) (by rw [hu, hits]) (by rw [hl, lists])
  | reset h => exact .reset (by rw [hu, h])

/-! ### The requests on the tables (R36 to R42, R46) -/

theorem State.stagingClosed_eq_none (h : s.stagingClosed = none) : s.engine.commitPending = false ∧ s.engine.latch = true := by
  unfold State.stagingClosed at h
  split at h
  · cases h
  · next hp =>
    split at h
    · next hl => exact ⟨by simpa using hp, hl⟩
    · cases h

theorem tableStep_answerTableWriteEnable (u : State) : u.TableStep (answerTableWriteEnable u).1 := .change _ (.latch true (fun _ => rfl)) rfl

theorem tableStep_answerTableWriteDisable (u : State) : u.TableStep (answerTableWriteDisable u).1 := by
  unfold answerTableWriteDisable
  split
  · exact .same rfl
  · next hp => exact .change _ (.latch false (fun h => absurd h hp)) rfl

/-- A row write leaves every row but the one that it names, which is not protected. -/
theorem tableStep_answerStageRow (part : Option (Row → Row)) (args : List Byte) (u : State) :
    u.TableStep (answerStageRow part args u).1 := by
  unfold answerStageRow
  split
  · exact .same rfl
  · next i _ =>
    split
    · exact .same rfl
    · split
      · exact .same rfl
      · next hi =>
        split
        · exact .same rfl
        · next f =>
          refine .change _ (.stage { u.engine.staging with rows := u.engine.staging.rows.modify i f } (fun k hk => ?_)) rfl
          exact Tab.get_modify_ne _ _ (fun h => hi (h ▸ hk))

theorem tableStep_answerStageGroup (args : List Byte) (u : State) : u.TableStep (answerStageGroup args u).1 := by
  unfold answerStageGroup
  split
  · exact .same rfl
  · split
    · exact .same rfl
    · split
      · exact .same rfl
      · next c _ =>
        exact .change _ (.stage { u.engine.staging with groups := u.engine.staging.groups.set _ (groupPart args c) }
          (fun _ _ => rfl)) rfl

theorem tableStep_answerSetProtectBoundary (args : List Byte) (u : State) :
    u.TableStep (answerSetProtectBoundary args u).1 := by
  unfold answerSetProtectBoundary
  dsimp only
  split
  · exact .same rfl
  · split
    · exact .same rfl
    · split
      · exact .same rfl
      · next hn => exact .change _ (.protect _ (Nat.not_lt.mp hn)) rfl

theorem tableStep_commitIfReady (u : State) : u.TableStep u.commitIfReady := by
  unfold State.commitIfReady
  split
  · exact .commit rfl rfl rfl
  · exact .same rfl

/-- Commit Table completes at once, or leaves the commit pending. -/
theorem tableStep_manageCommitTable (tag : Byte) (args : List Byte) (u : State) : u.TableStep (manageCommitTable tag args u) := by
  unfold manageCommitTable State.commitIfReady
  dsimp only
  split
  · exact .same rfl
  · next hopen =>
    have hl : u.engine.latch = true := (State.stagingClosed_eq_none hopen).2
    split
    · exact .commit rfl rfl rfl
    · exact .change _ (.pend hl) rfl

/-! ### Answers that leave the engine -/

theorem readAnswer_fst (data : Option (List Byte)) (u : State) : (readAnswer u data).1 = u := by
  unfold readAnswer
  split <;> rfl

theorem answerInjectFrame_engine (args : List Byte) (u : State) : (answerInjectFrame args u).1.engine = u.engine := by
  unfold answerInjectFrame
  (repeat' split) <;> rfl

theorem State.parkEnter_engine (u : State) : u.parkEnter.engine = u.engine := by
  have hall : ∀ v : State, v.rederiveAll.engine = v.engine := fun v => State.engine_of_fixed v.rederiveAll_fixed
  have hdom : ∀ v : State, (v.eachDomain State.parkDomain).engine = v.engine :=
    State.eachDomain_keeps State.engine _ (fun v d => State.engine_of_fixed (v.parkDomain_fixed d))
  have htokens : ∀ v : State, (v.eachDomain State.refillAtPark).engine = v.engine :=
    State.eachDomain_keeps State.engine _ (fun _ _ => rfl)
  unfold State.parkEnter
  dsimp only
  rw [State.engine_of_fixed (State.openBuffer_fixed _), State.engine_of_fixed (State.shed_fixed _),
    State.engine_of_fixed (State.setTier_fixed _), htokens, State.updAccount_engine, hdom]
  dsimp only
  rw [hall]

theorem State.exitWake_fixed (u : State) (d : Domain) : (u.exitWake d).fixed = u.fixed := by
  unfold State.exitWake
  split
  · exact u.wakeRequest_fixed d 0 .exit
  · rfl

theorem State.parkExit_engine (u : State) : u.parkExit.engine = u.engine := by
  unfold State.parkExit
  dsimp only
  rw [State.eachDomain_keeps State.engine _ (fun v d => State.engine_of_fixed (v.exitWake_fixed d)),
    State.engine_of_fixed (State.captureParkExit_fixed _), State.engine_of_fixed (State.rederiveAll_fixed _)]

theorem answerParkEnter_engine (u : State) : (answerParkEnter u).1.engine = u.engine := by
  unfold answerParkEnter
  split
  · exact u.parkEnter_engine
  · rfl

theorem answerParkExit_engine (u : State) : (answerParkExit u).1.engine = u.engine := by
  unfold answerParkExit
  split
  · exact u.parkExit_engine
  · rfl

theorem answerReadRowPart_fst (args : List Byte) (u : State) : (answerReadRowPart args u).1 = u := by
  unfold answerReadRowPart
  dsimp only
  split
  · exact readAnswer_fst _ u
  · split <;> rfl

theorem State.setParams_fixed (u : State) (d : Domain) (old new : DomainParams) : (u.setParams d old new).fixed = u.fixed := by
  unfold State.setParams
  dsimp only
  split
  · rw [State.updTokens_fixed, State.disable_fixed, State.updDom_fixed]
  · rfl

theorem answerSetDomainParameter_fixed (args : List Byte) (u : State) :
    (answerSetDomainParameter args u).1.fixed = u.fixed := by
  unfold answerSetDomainParameter
  dsimp only
  split
  · rfl
  · split
    · rfl
    · split
      · rfl
      · split
        · rfl
        · exact u.setParams_fixed _ _ _

theorem answerReadDomain_fst (args : List Byte) (u : State) : (answerReadDomain args u).1 = u := by
  unfold answerReadDomain
  split
  · rfl
  · exact readAnswer_fst _ u

theorem answerDomainWake_fixed (args : List Byte) (u : State) : (answerDomainWake args u).1.fixed = u.fixed := by
  unfold answerDomainWake
  split
  · rw [State.closeIfComplete_fixed, State.wakeRequest_fixed]
  · rfl
  · rfl
  · rfl

theorem answerDomainSleep_fixed (args : List Byte) (u : State) : (answerDomainSleep args u).1.fixed = u.fixed := by
  unfold answerDomainSleep
  split
  · rfl
  · split
    · rfl
    · exact u.switchOff_fixed _ _ _
    · exact u.switchOff_fixed _ _ _
    · exact u.enterWinding_fixed _ _
    · rfl
    · rfl

theorem answerDomainClearFault_fixed (args : List Byte) (u : State) : (answerDomainClearFault args u).1.fixed = u.fixed := by
  unfold answerDomainClearFault
  split
  · rfl
  · split
    · exact u.switchOff_fixed _ _ _
    · rfl

theorem answerSetSlots_fixed (args : List Byte) (u : State) : (answerSetSlots args u).1.fixed = u.fixed := by
  unfold answerSetSlots
  dsimp only
  split <;> rfl

theorem answerSetBudget_fixed (args : List Byte) (u : State) : (answerSetBudget args u).1.fixed = u.fixed := by
  unfold answerSetBudget
  dsimp only
  split
  · rw [State.retier_fixed, State.updAccount_fixed]
  · rfl

theorem answerSetCaptureMode_fixed (args : List Byte) (u : State) : (answerSetCaptureMode args u).1.fixed = u.fixed := by
  unfold answerSetCaptureMode
  split
  · rfl
  · split <;> rfl

theorem answerReadCaptureDescriptor_fst (args : List Byte) (u : State) : (answerReadCaptureDescriptor args u).1 = u := by
  unfold answerReadCaptureDescriptor
  dsimp only
  split
  · exact readAnswer_fst _ u
  · split
    · exact readAnswer_fst _ u
    · rfl

theorem answerReadCaptureFrame_fst (args : List Byte) (u : State) : (answerReadCaptureFrame args u).1 = u := by
  unfold answerReadCaptureFrame
  dsimp only
  split
  · split
    · exact readAnswer_fst _ u
    · rfl
  · rfl

theorem answerReleaseCapture_fixed (u : State) : (answerReleaseCapture u).1.fixed = u.fixed := by
  unfold answerReleaseCapture
  dsimp only
  split
  · exact u.release_fixed _
  · rfl

theorem answerConfigureLine_engine (args : List Byte) (u : State) : (answerConfigureLine args u).1.engine = u.engine := by
  unfold answerConfigureLine
  (repeat' split) <;> rfl

theorem answerReadLines_engine (args : List Byte) (u : State) : (answerReadLines args u).1.engine = u.engine := by
  unfold answerReadLines
  split <;> rfl

theorem answerConfigureTimer_engine (args : List Byte) (u : State) : (answerConfigureTimer args u).1.engine = u.engine := by
  unfold answerConfigureTimer
  (repeat' split) <;> rfl

theorem answerStartTimer_engine (args : List Byte) (u : State) : (answerStartTimer args u).1.engine = u.engine := by
  unfold answerStartTimer
  split <;> rfl

theorem answerStopTimer_engine (args : List Byte) (u : State) : (answerStopTimer args u).1.engine = u.engine := by
  unfold answerStopTimer
  split <;> rfl

theorem answerReadPortStatus_fixed (args : List Byte) (u : State) : (answerReadPortStatus args u).1.fixed = u.fixed := by
  unfold answerReadPortStatus
  split
  · rfl
  · split
    · rfl
    · dsimp only
      split <;> rfl

theorem State.takeCauses_engine (u : State) (tag : Byte) (n : Nat) : (u.takeCauses tag n).engine = u.engine := by
  unfold State.takeCauses
  dsimp only
  split
  · rfl
  · rw [State.foldl_keeps State.engine State.sendCause (fun _ _ => rfl)]
    rfl

theorem manageTakeCauses_engine (tag : Byte) (args : List Byte) (u : State) : (manageTakeCauses tag args u).engine = u.engine := by
  unfold manageTakeCauses
  dsimp only
  split
  · rfl
  · split
    · rfl
    · exact State.takeCauses_engine _ _ _

theorem manageUnknown_engine (data : List Byte) (u : State) : (manageUnknown data u).engine = u.engine := by
  unfold manageUnknown
  dsimp only
  split <;> rfl

/-! ### Resets (R173) -/

theorem State.managementReset_engine (u : State) : u.managementReset.engine = Engine.atReset :=
  State.engine_of_fixed (State.wakeRequest_fixed _ Domain.D0 0 .reset)

theorem State.powerOn_engine (u : State) (strap : BitVec 3) : (u.powerOn strap).engine = Engine.atReset :=
  State.engine_of_fixed (State.wakeRequest_fixed _ Domain.D0 0 .reset)

theorem tableStep_manageReset (tag : Byte) (args : List Byte) (u : State) : u.TableStep (manageReset tag args u) := by
  unfold manageReset
  dsimp only
  split
  · split
    · exact .same rfl
    · exact .reset (State.managementReset_engine _)
  · exact .same rfl

/-! ### The Management Unit (R162 to R164) -/

theorem tableStep_manage {code tag : Byte} {args : List Byte} {n : Nat} {body : State → State × Answer}
    (hb : ∀ u : State, u.TableStep (body u).1) (u : State) : u.TableStep (u.manage code tag args n body) := by
  unfold State.manage
  dsimp only
  split
  · exact .same rfl
  · have hbody : u.TableStep (body (u.setPrepared false)).1 := (hb (u.setPrepared false)).after rfl
    exact hbody.before rfl rfl

/-- The Management Unit carries out one change of the tables at most, whatever the request. -/
theorem tableStep_manageData (data : List Byte) (u : State) : u.TableStep (manageData data u) := by
  have engine : ∀ {code tag : Byte} {args : List Byte} {n : Nat} {body : State → State × Answer},
      (∀ v : State, (body v).1.engine = v.engine) → u.TableStep (u.manage code tag args n body) :=
    fun h => tableStep_manage (fun v => .of_engine (h v)) u
  have fixed : ∀ {code tag : Byte} {args : List Byte} {n : Nat} {body : State → State × Answer},
      (∀ v : State, (body v).1.fixed = v.fixed) → u.TableStep (u.manage code tag args n body) :=
    fun h => tableStep_manage (fun v => .of_fixed (h v)) u
  have reads : ∀ {code tag : Byte} {args : List Byte} {n : Nat} {body : State → State × Answer},
      (∀ v : State, (body v).1 = v) → u.TableStep (u.manage code tag args n body) := fun h => engine (fun v => by rw [h])
  unfold manageData
  cases decodeRequest data with
  | identify tag args => exact engine (fun _ => rfl)
  | readStatus tag args => exact reads (fun v => readAnswer_fst _ v)
  | setClock tag args => exact engine (fun _ => rfl)
  | injectFrame tag args => exact engine (answerInjectFrame_engine args)
  | resetPrepare tag args => exact .same rfl
  | reset tag args => exact tableStep_manageReset tag args u
  | parkEnter tag args => exact engine answerParkEnter_engine
  | parkExit tag args => exact engine answerParkExit_engine
  | tableWriteEnable tag args => exact tableStep_manage tableStep_answerTableWriteEnable u
  | tableWriteDisable tag args => exact tableStep_manage tableStep_answerTableWriteDisable u
  | stageRowMatch tag args => exact tableStep_manage (tableStep_answerStageRow _ args) u
  | stageRowDataTest tag args => exact tableStep_manage (tableStep_answerStageRow _ args) u
  | stageRowAction tag args => exact tableStep_manage (tableStep_answerStageRow _ args) u
  | stageRowWakeSet tag args => exact tableStep_manage (tableStep_answerStageRow _ args) u
  | stageGroup tag args => exact tableStep_manage (tableStep_answerStageGroup args) u
  | commitTable tag args => exact tableStep_manageCommitTable tag args u
  | readRowPart tag args => exact reads (answerReadRowPart_fst args)
  | readHits tag args => exact reads (fun v => readAnswer_fst _ v)
  | setProtectBoundary tag args => exact tableStep_manage (tableStep_answerSetProtectBoundary args) u
  | setDomainParameter tag args => exact fixed (answerSetDomainParameter_fixed args)
  | readDomain tag args => exact reads (answerReadDomain_fst args)
  | domainWake tag args => exact fixed (answerDomainWake_fixed args)
  | domainSleep tag args => exact fixed (answerDomainSleep_fixed args)
  | domainClearFault tag args => exact fixed (answerDomainClearFault_fixed args)
  | setSlots tag args => exact fixed (answerSetSlots_fixed args)
  | setBudget tag args => exact fixed (answerSetBudget_fixed args)
  | readAccount tag args => exact reads (fun v => readAnswer_fst _ v)
  | takeCauses tag args => exact .of_engine (manageTakeCauses_engine tag args u)
  | setCaptureMode tag args => exact fixed (answerSetCaptureMode_fixed args)
  | readCaptureDescriptor tag args => exact reads (answerReadCaptureDescriptor_fst args)
  | readCaptureFrame tag args => exact reads (answerReadCaptureFrame_fst args)
  | releaseCapture tag args => exact fixed answerReleaseCapture_fixed
  | configureLine tag args => exact engine (answerConfigureLine_engine args)
  | readLines tag args => exact engine (answerReadLines_engine args)
  | configureTimer tag args => exact engine (answerConfigureTimer_engine args)
  | startTimer tag args => exact engine (answerStartTimer_engine args)
  | stopTimer tag args => exact engine (answerStopTimer_engine args)
  | readPortStatus tag args => exact fixed (answerReadPortStatus_fixed args)
  | _ => exact .of_engine (manageUnknown_engine data u)

theorem tableStep_requestFrame (s : State) (data : List Byte) : s.TableStep (s.requestFrame data (manageData data)) := by
  unfold State.requestFrame
  dsimp only
  split
  · split
    · exact .same rfl
    · exact (tableStep_manageData data _).after rfl
  · exact .same rfl

end Sys2Proof.Machine
end

section
/-! One change of the tables at most for every command, and what follows for the active table, the protected rows and the latch
(O4, O7). -/

namespace Sys2Proof.Machine

variable {s t u : State}

/-! ### Events that leave the tables -/

theorem State.grantMatch_held (s : State) : s.grantMatch.engine.held = s.engine.held := by
  unfold State.grantMatch
  split
  · rfl
  · split
    · next i _ =>
      rcases s.dropOldest_cases i with ⟨_, hd⟩ | ⟨-, hd⟩ | ⟨-, hd⟩ | ⟨-, hd⟩ <;> rw [hd] <;> rfl
    · rfl

theorem State.completed_held (s : State) (r : FrameRecord) : (s.idleEngine.complete r).engine.held = s.engine.held := by
  have hengine : (s.idleEngine.complete r).engine = _ := congrArg Fixed.engine (s.completed_core r)
  rw [hengine]
  rfl

theorem State.sampleLine_engine (s : State) (l : LineIx) (v : Bool) : (s.sampleLine l v).engine = s.engine := by
  have haccept : ∀ u : State, (u.acceptChange l v).engine = u.engine := fun u => by
    unfold State.acceptChange
    split
    · rfl
    · split
      · unfold State.lineEvent
        split <;> rfl
      · rfl
    · split
      · exact u.parkExit_engine
      · rfl
  unfold State.sampleLine
  split
  · exact haccept _
  · rfl

theorem State.sample_engine (s : State) (levels : BitVec 16) : (s.sample levels).engine = s.engine := by
  unfold State.sample
  dsimp only
  rw [State.foldl_keeps State.engine _ (fun u l => u.sampleLine_engine l _)]

theorem State.second_engine (s : State) : s.second.engine = s.engine := by
  unfold State.second
  split
  · unfold State.accountSecond
    dsimp only
    exact (State.engine_of_fixed (State.retier_fixed _)).trans rfl
  · rfl

theorem State.readyExpires_engine (s : State) (d : Domain) : (s.readyExpires d).engine = s.engine := by
  unfold State.readyExpires
  split
  · exact State.engine_of_fixed (s.becomeReady_fixed d)
  · split
    · rfl
    · exact (State.engine_of_fixed (State.switchOff_fixed _ d _ _)).trans (s.recordFailure_engine d)

/-- The end of an attempt leaves the engine, but for the management reset that the response of a Reset brings about (R172). -/
theorem State.tableStep_endAttempt (s : State) (p : Port) (a : Attempt) (o : TxOutcome) : s.TableStep (s.endAttempt p a o) := by
  unfold State.endAttempt
  dsimp only
  have hended : ((s.updPort p (fun u => { u with attempt := none })).accountEnd p a.detached o).engine = s.engine :=
    State.engine_of_fixed (State.accountEnd_fixed _ p a.detached o)
  generalize (s.updPort p (fun u => { u with attempt := none })).accountEnd p a.detached o = u at hended
  refine State.TableStep.after ?_ hended
  split
  · unfold State.endQueueAttempt
    split
    · exact .same rfl
    · unfold State.entrySent
      split
      · split
        · exact .reset (State.managementReset_engine _)
        · exact .same rfl
      · split
        · exact .of_fixed ((State.settleNotice_fixed _ _ _ _).trans (u.dropHead_fixed p))
        · exact .of_fixed ((State.noticeSent_fixed _ _ _).trans (u.dropHead_fixed p))
    · split
      · exact .of_fixed ((State.settleNotice_fixed _ _ _ _).trans (u.dropHead_fixed p))
      · exact .same rfl
    · exact .same rfl
  · exact .of_fixed ((State.applyAbort_fixed _ p).trans (State.endReplayAttempt_fixed _ p _ _ o))

/-! ### Every command -/

/-- A request command has the effect of its frame, whatever its arguments. -/
theorem exec_request {i : Instr} {bytes : List Byte} (hb : requestBytes i = some bytes) (s : State) :
    ∃ data, exec i s = .next (s.requestFrame data (manageData data)) := by
  cases i
  case unknownRequest data => exact ⟨data.take 8, rfl⟩
  case powerOnReset | resetDeadlineExpiry | frameTaken | commitCompletion | matchGrant | evaluationCompletion | slotGrant |
      readyTimerExpiry | holdExpiry | idleExpiry | minAwakeElapse | windExpiry | transmissionStart | transmissionEnd |
      recoveryTimerExpiry | replayStart | bufferFree | contributionExpiry | lineSample | parkSecond | refillExpiry |
      timerExpiry => cases hb
  all_goals exact ⟨_ :: _ :: frameArgs _, rfl⟩

/-- Every command makes one change of the tables at most. -/
theorem exec_tableStep {i : Instr} (h : exec i s = .next t) : s.TableStep t := by
  cases hb : requestBytes i with
  | some bytes =>
    obtain ⟨data, hexec⟩ := exec_request hb s
    obtain rfl := Host.Outcome.next.inj (hexec.symm.trans h)
    exact tableStep_requestFrame s data
  | none =>
    cases i with
    | powerOnReset strap =>
      cases h
      exact .reset (s.powerOn_engine strap)
    | resetDeadlineExpiry =>
      simp only [exec, execResetDeadlineExpiry] at h
      split at h <;> cases h
      · exact .reset s.managementReset_engine
      · exact .same rfl
    | frameTaken p f =>
      cases f with
      | data i code bytes =>
        simp only [exec, execFrameTaken] at h
        split at h <;> cases h
        · exact tableStep_requestFrame s _
        · exact .same rfl
      | _ =>
        cases h
        exact .same rfl
    | commitCompletion =>
      cases h
      exact tableStep_commitIfReady s
    | matchGrant =>
      cases h
      exact .same s.grantMatch_held
    | evaluationCompletion =>
      simp only [exec, execEvaluationCompletion] at h
      split at h <;> cases h
      · exact .same (s.completed_held _)
      · exact .same rfl
    | slotGrant =>
      cases h
      exact .of_fixed s.grantSlot_fixed
    | readyTimerExpiry d =>
      simp only [exec, execReadyTimerExpiry] at h
      split at h <;> cases h
      · exact .of_engine (s.readyExpires_engine d)
      · exact .same rfl
    | holdExpiry d =>
      simp only [exec, execHoldExpiry] at h
      split at h <;> cases h
      · exact .of_fixed (s.releaseSlot_fixed d)
      · exact .same rfl
    | idleExpiry d =>
      cases h
      exact .of_fixed (s.idleDue_fixed d)
    | minAwakeElapse d =>
      cases h
      exact .of_fixed (s.minAwakeDue_fixed d)
    | windExpiry d =>
      simp only [exec, execWindExpiry] at h
      split at h <;> cases h
      · exact .of_fixed (State.windingAsleep_fixed _ d)
      · exact .same rfl
    | transmissionStart p =>
      simp only [exec, execTransmissionStart] at h
      split at h
      · split at h
        · cases h
          exact .of_fixed (s.startQueue_fixed p)
        · split at h <;> cases h
          · exact .same rfl
          · exact .of_fixed ((State.startQueue_fixed _ p).trans (s.endReplay_fixed p _))
      · cases h
        exact .same rfl
    | transmissionEnd p o =>
      simp only [exec, execTransmissionEnd] at h
      split at h <;> cases h
      · exact s.tableStep_endAttempt p _ o
      · exact .same rfl
    | recoveryTimerExpiry p =>
      simp only [exec, execRecoveryTimerExpiry] at h
      split at h <;> cases h <;> exact .same rfl
    | replayStart p =>
      simp only [exec, execReplayStart] at h
      split at h <;> cases h <;> exact .same rfl
    | bufferFree =>
      simp only [exec, execBufferFree] at h
      split at h <;> cases h
      · exact .of_fixed s.freeBuffer_fixed
      · exact .same rfl
    | contributionExpiry g n =>
      simp only [exec, execContributionExpiry] at h
      split at h <;> cases h <;> exact .same rfl
    | lineSample levels =>
      simp only [exec, execLineSample, Host.Outcome.next.injEq] at h
      subst h
      exact .of_engine (s.sample_engine levels)
    | parkSecond =>
      simp only [exec, execParkSecond, Host.Outcome.next.injEq] at h
      subst h
      exact .of_engine ((State.second_engine _).trans s.takeDue_engine)
    | refillExpiry d =>
      cases h
      exact .of_fixed (s.refillsDueTo_fixed d)
    | timerExpiry k =>
      cases h
      obtain ⟨v, hv⟩ := s.timersDueTo_frame k
      exact .of_engine (by rw [hv])
    | _ => cases hb

/-- Every step makes one change of the tables at most. -/
theorem step_tableStep (h : step s = .next t) : s.TableStep t := by
  unfold step at h
  split at h
  · exact (exec_tableStep h).after rfl
  · obtain rfl : s.tick = t := Host.Outcome.next.inj h
    refine .of_engine ?_
    rw [State.tick, State.countsMs_engine, State.expireContributions_engine, State.takeDue_engine]

/-! ### Reading a change off -/

theorem Engine.Change.active {e e' : Engine} (h : e.Change e') : e'.active = e.active := by cases h <;> rfl

theorem Engine.Change.boundary {e e' : Engine} (h : e.Change e') : e.boundary ≤ e'.boundary := by
  cases h with
  | protect n hn => exact hn
  | _ => exact Nat.le_refl _

/-- The rows below the boundary stay equal in both copies (R42). -/
theorem Engine.Change.protectedRowsAgree {e e' : Engine} (h : e.Change e')
    (he : ∀ i : RowIx, i.val < e.boundary → e.staging.rows.get i = e.active.rows.get i) (i : RowIx) (hi : i.val < e'.boundary) :
    e'.staging.rows.get i = e'.active.rows.get i := by
  cases h with
  | same | latch | pend => exact he i hi
  | stage x hx => exact (hx i hi).trans (he i hi)
  | protect n _ =>
    refine (Tab.get_ofFn _ i).trans ?_
    have hn : i.val < n := hi
    split
    · rfl
    · next hlow => exact he i (by omega)

/-- The latch stays set while a commit is pending (R38). -/
theorem Engine.Change.latchFits {e e' : Engine} (h : e.Change e') (he : e.commitPending = true → e.latch = true) :
    e'.commitPending = true → e'.latch = true := by
  cases h with
  | same | stage | protect => exact he
  | latch b hb => exact hb
  | pend hl => exact fun _ => hl

/-- The active table stands, or the change is a commit or a reset (R41). -/
theorem State.TableStep.active (h : s.TableStep t) :
    t.engine.active = s.engine.active ∨
      (t.engine.active = s.engine.staging ∧ t.engine.staging = s.engine.staging ∧
        (∀ r : RowIx, t.engine.hits.get r = 0) ∧ (∀ g : GroupIx, t.contributions.get g = []) ∧
        t.engine.latch = false ∧ t.engine.commitPending = false) ∨
      t.engine = Engine.atReset := by
  cases h with
  | change e he h => exact .inl ((Engine.held_eq h).1.trans he.active)
  | commit h hits lists =>
    obtain ⟨hactive, hstaging, hlatch, hpending, -⟩ := Engine.held_eq h
    exact .inr (.inl ⟨hactive, hstaging, fun r => by rw [hits, Tab.get_replicate], fun g => by rw [lists, Tab.get_replicate],
      hlatch, hpending⟩)
  | reset h => exact .inr (.inr h)

/-- The boundary falls at a reset alone (R42). -/
theorem State.TableStep.boundary (h : s.TableStep t) : s.engine.boundary ≤ t.engine.boundary ∨ t.engine = Engine.atReset := by
  cases h with
  | change e he h => exact .inl ((Engine.held_eq h).2.2.2.2 ▸ he.boundary)
  | commit h =>
    obtain ⟨-, -, -, -, hboundary⟩ := Engine.held_eq h
    exact .inl hboundary.ge
  | reset h => exact .inr h

/-- A protected row of the active table changes at a reset alone (R42). -/
theorem State.TableStep.protected_row (h : s.TableStep t) (hs : s.ProtectedRowsAgree) :
    (∀ r : RowIx, r.val < s.engine.boundary → t.engine.active.rows.get r = s.engine.active.rows.get r) ∨
      t.engine = Engine.atReset := by
  rcases h.active with hsame | ⟨hcommit, -⟩ | hreset
  · exact .inl (fun r _ => by rw [hsame])
  · exact .inl (fun r hr => by rw [hcommit, hs r hr])
  · exact .inr hreset

theorem State.TableStep.protectedRowsAgree (h : s.TableStep t) (hs : s.ProtectedRowsAgree) : t.ProtectedRowsAgree := by
  cases h with
  | change e he h =>
    obtain ⟨hactive, hstaging, -, -, hboundary⟩ := Engine.held_eq h
    rw [State.ProtectedRowsAgree, hactive, hstaging, hboundary]
    exact he.protectedRowsAgree hs
  | commit h =>
    obtain ⟨hactive, hstaging, -⟩ := Engine.held_eq h
    exact fun i _ => by rw [hactive, hstaging]
  | reset h => exact fun i _ => by rw [h]; rfl

theorem State.TableStep.latchFits (h : s.TableStep t) (hs : s.LatchFits) : t.LatchFits := by
  cases h with
  | change e he h =>
    obtain ⟨-, -, hlatch, hpending, -⟩ := Engine.held_eq h
    rw [State.LatchFits, hlatch, hpending]
    exact he.latchFits hs
  | commit h =>
    obtain ⟨-, -, -, hpending, -⟩ := Engine.held_eq h
    exact fun hp => nomatch hpending.symm.trans hp
  | reset h => exact fun hp => nomatch (congrArg Engine.commitPending h).symm.trans hp

end Sys2Proof.Machine

open Sys2Proof Sys2Proof.Machine

/-- Settles O4: every command makes one change of the tables at most. -/
theorem theActiveTableChangesOnlyAtCommitOrReset : Obligations.TheActiveTableChangesOnlyAtCommitOrReset :=
  fun _ _ _ h => (exec_tableStep h).active

/-- Settles O7: each change of the tables keeps the protected rows and the latch. -/
theorem protectedRowsAndTheLatchHold : Obligations.ProtectedRowsAndTheLatchHold := by
  refine ⟨fun s t hrows hlatch h => ?_, fun i s t hrows h => ?_⟩
  · exact ⟨(step_tableStep h).protectedRowsAgree hrows, (step_tableStep h).latchFits hlatch⟩
  · rcases (exec_tableStep h).protected_row hrows with hrow | hreset
    · rcases (exec_tableStep h).boundary with hboundary | hreset
      · exact .inl ⟨hrow, hboundary⟩
      · exact .inr hreset
    · exact .inr hreset

end

section
/-! The requests on the Rule Table: the latch (O24), row writes and their refusals (O25, O26), the commit (O28) and the protect
boundary (O30). -/

namespace Sys2Proof.Machine

open Sys2Proof.Claims

variable {s u : State}

/-! ### A request executed (R162 to R164) -/

/-- A request with the bytes that it needs, taken while requests are executed, is answered as its body says. -/
theorem takeRequest_answered {code tag : Byte} {args : List Byte} {n : Nat} {body : State → State × Answer}
    {manage : Byte → List Byte → State → State} (hs : Executes s) (hn : n ≤ (frameArgs args).length)
    (hm : ∀ u : State, manage tag (frameArgs args) u = u.manage code tag (frameArgs args) n body) :
    takeRequest code tag args manage s =
      .next (answered (body (taken s)).1 (responseBytes code tag (body (taken s)).2)) := by
  rw [takeRequest_next s code tag args manage hs.1 hs.2, hm, State.manage_heard hn]

/-! ### Bits of a byte (R174) -/

theorem asRow_val (i : RowIx) : asRow i.val = some i := by simp [asRow]

theorem asRow_byte (i : RowIx) : asRow (BitVec.ofNat 8 i.val : Byte).toNat = some i := by
  rw [BitVec.toNat_ofNat, Nat.mod_eq_of_lt (by omega), asRow_val]

theorem asRow_of_le {n : Nat} (h : 128 ≤ n) : asRow n = none := by simp [asRow, Nat.not_lt.mpr h]

/-- A bit of a byte as the number that it stands for. -/
theorem bitField_one (b : Byte) (k : Nat) : bitField b k 1 = if b.getLsbD k = true then 1 else 0 := by
  rw [bitField, BitVec.getLsbD, Nat.testBit_eq_decide_div_mod_eq, Nat.pow_one]
  split
  · next h => exact of_decide_eq_true h
  · next h => exact (Nat.mod_two_eq_zero_or_one _).resolve_right (fun h1 => h (decide_eq_true h1))

theorem bitField_zero (b : Byte) (w : Nat) : bitField b 0 w = b.toNat % 2 ^ w := by
  rw [bitField, Nat.pow_zero, Nat.div_one]

/-- A set bit of a byte, by the byte's value. -/
theorem getLsbD_iff (b : Byte) (k : Nat) : b.getLsbD k = true ↔ b.toNat / 2 ^ k % 2 = 1 := by
  rw [BitVec.getLsbD, Nat.testBit_eq_decide_div_mod_eq, decide_eq_true_iff]

/-! ### Row writes (R36, R37) -/

variable {part : Option (Row → Row)} {args : List Byte}

theorem answerStageRow_index (h : 128 ≤ (argByte args 2).toNat) : answerStageRow part args u = (u, .bare .index) := by
  rw [answerStageRow, asRow_of_le h]

theorem answerStageRow_closed {i : RowIx} {refusal : Reply} (hi : asRow (argByte args 2).toNat = some i)
    (hc : u.stagingClosed = some refusal) : answerStageRow part args u = (u, .bare refusal) := by
  simp only [answerStageRow, hi, hc]

theorem State.stagingClosed_busy (hp : u.engine.commitPending = true) : u.stagingClosed = some .busy := by
  simp [State.stagingClosed, hp]

theorem State.stagingClosed_latch (hp : u.engine.commitPending = false) (hl : u.engine.latch = false) :
    u.stagingClosed = some .latch := by
  simp [State.stagingClosed, hp, hl]

theorem State.stagingClosed_open (hp : u.engine.commitPending = false) (hl : u.engine.latch = true) : u.stagingClosed = none := by
  simp [State.stagingClosed, hp, hl]

theorem answerStageRow_protected {i : RowIx} (hi : asRow (argByte args 2).toNat = some i) (hp : u.engine.commitPending = false)
    (hl : u.engine.latch = true) (hb : i.val < u.engine.boundary) : answerStageRow part args u = (u, .bare .protectedRow) := by
  simp only [answerStageRow, hi, State.stagingClosed_open hp hl, hb, if_true]

/-- An open row write whose fields are in range writes its part. -/
theorem answerStageRow_some {i : RowIx} {f : Row → Row} (hi : asRow (argByte args 2).toNat = some i) (ho : StagingOpen u i)
    (hf : part = some f) : answerStageRow part args u = (staged u i (f (stagingRow u i)), .bare .ok) := by
  obtain ⟨hp, hl, hb⟩ := ho
  simp only [answerStageRow, hi, State.stagingClosed_open hp hl, Nat.not_lt.mpr hb, if_false, hf]
  rfl

/-- An open row write with a field out of range writes nothing. -/
theorem answerStageRow_none {i : RowIx} (hi : asRow (argByte args 2).toNat = some i) (ho : StagingOpen u i)
    (hf : part = none) : answerStageRow part args u = (u, .bare .value) := by
  obtain ⟨hp, hl, hb⟩ := ho
  simp only [answerStageRow, hi, State.stagingClosed_open hp hl, Nat.not_lt.mpr hb, if_false, hf]

/-- The four row writes are answered by `answerStageRow`, each with its own part. -/
theorem exec_rowWrite {tag b code : Byte} {rest : List Byte} {w : Instr} (hs : Executes s) (hlen : 5 ≤ rest.length)
    (hw : (code, w) ∈ rowWrites tag (b :: rest)) :
    ∃ part, exec w s = .next (answered (answerStageRow part (frameArgs (b :: rest)) (taken s)).1
      (responseBytes code tag (answerStageRow part (frameArgs (b :: rest)) (taken s)).2)) := by
  have hneeded : ∀ n ≤ 6, n ≤ (frameArgs (b :: rest)).length := fun n hn => by
    rw [frameArgs, List.length_take, List.length_cons]
    omega
  simp only [rowWrites, List.mem_cons, Prod.mk.injEq, List.not_mem_nil, or_false] at hw
  rcases hw with ⟨rfl, rfl⟩ | ⟨rfl, rfl⟩ | ⟨rfl, rfl⟩ | ⟨rfl, rfl⟩
  all_goals exact ⟨_, takeRequest_answered hs (hneeded _ (by decide)) (fun _ => rfl)⟩

/-! ### The parts of a row in their bytes (R176) -/

/-- The match part in the claims' words. -/
theorem matchPart_eq (b2 b3 b4 b5 b6 b7 : Byte) :
    matchPart [b2, b3, b4, b5, b6, b7] =
      if matchInRange b3 b5 b6 = true then
        some (fun row =>
          { row with
            valid := b3.getLsbD 7
            sources := BitVec.ofNat 9 (b4.toNat + if b3.getLsbD 2 = true then 256 else 0)
            ident := BitVec.ofNat 11 (16 * b5.toNat + b6.toNat / 16)
            mask := BitVec.ofNat 11 (256 * (b6.toNat % 16) + b7.toNat)
            modes := modesOf (b3.toNat % 4) })
      else none := by
  have h6 : b6.toNat < 256 := b6.isLt
  have h7 : b7.toNat < 256 := b7.isLt
  have hword : identMaskArg [b2, b3, b4, b5, b6, b7] = b5.toNat * 65536 + (b6.toNat * 256 + b7.toNat) := rfl
  have hident : identMaskArg [b2, b3, b4, b5, b6, b7] / 4096 = 16 * b5.toNat + b6.toNat / 16 := by rw [hword]; omega
  have hmask : identMaskArg [b2, b3, b4, b5, b6, b7] % 4096 = 256 * (b6.toNat % 16) + b7.toNat := by rw [hword]; omega
  have hsources : sourcesArg [b2, b3, b4, b5, b6, b7] =
      BitVec.ofNat 9 (b4.toNat + if b3.getLsbD 2 = true then 256 else 0) := by
    rw [sourcesArg, show argByte [b2, b3, b4, b5, b6, b7] 3 = b3 from rfl, bitField_one, mul_ite]
    rfl
  have hrange : matchInRange b3 b5 b6 = true ↔
      b3.toNat % 4 ≠ 0 ∧ 16 * b5.toNat + b6.toNat / 16 < 2048 ∧ 256 * (b6.toNat % 16) + b7.toNat < 2048 := by
    have h5 : b5.toNat < 256 := b5.isLt
    simp only [matchInRange, Bool.and_eq_true, Bool.not_eq_true', bne_iff_ne, ← Bool.not_eq_true, getLsbD_iff]
    omega
  have hmodes : asRowModes (b3.toNat % 4) = if b3.toNat % 4 ≠ 0 then some (modesOf (b3.toNat % 4)) else none := by
    have : b3.toNat % 4 < 4 := Nat.mod_lt _ (by decide)
    generalize b3.toNat % 4 = n at this
    interval_cases n <;> rfl
  have hfour : b3.toNat % 2 ^ 2 = b3.toNat % 4 := rfl
  rw [matchPart, hident, hmask, hsources, show argByte [b2, b3, b4, b5, b6, b7] 3 = b3 from rfl, bitField_zero, hfour, hmodes,
    asIdent, asIdent]
  by_cases h3 : b3.toNat % 4 = 0
  · simp [hrange, h3]
  · by_cases hi : 16 * b5.toNat + b6.toNat / 16 < 2048
    · by_cases hm : 256 * (b6.toNat % 16) + b7.toNat < 2048
      · simp [hrange, h3, hi, hm]
      · simp [hrange, h3, hi, hm]
    · simp [hrange, hi]

/-- The data-test part of a test that is present (R28). -/
theorem dataTestPart_present {b2 b3 b4 b5 : Byte} (h : b3.getLsbD 7 = true) (k : Fin 8) (hk : b3.toNat % 16 = k.val) :
    dataTestPart [b2, b3, b4, b5] = some (fun row => { row with test := some { index := k, value := b4, mask := b5 } }) := by
  have hfield : bitField b3 0 4 = k.val := (bitField_zero b3 4).trans hk
  have hlt : bitField b3 0 4 < 8 := by omega
  have hindex : (⟨bitField b3 0 4, hlt⟩ : Fin 8) = k := Fin.ext hfield
  rw [dataTestPart, show argByte [b2, b3, b4, b5] 3 = b3 from rfl, if_pos h, dif_pos hlt, hindex]
  rfl

theorem dataTestPart_out {b2 b3 b4 b5 : Byte} (h : b3.getLsbD 7 = true) (hk : 8 ≤ b3.toNat % 16) :
    dataTestPart [b2, b3, b4, b5] = none := by
  have hlt : ¬bitField b3 0 4 < 8 := by rw [bitField_zero]; omega
  rw [dataTestPart, show argByte [b2, b3, b4, b5] 3 = b3 from rfl, if_pos h, dif_neg hlt]

theorem dataTestPart_absent {b2 b3 b4 b5 : Byte} (h : b3.getLsbD 7 ≠ true) :
    dataTestPart [b2, b3, b4, b5] = some (fun row => { row with test := none }) := by
  rw [dataTestPart, show argByte [b2, b3, b4, b5] 3 = b3 from rfl, if_neg h]

/-- A group field in range: a group, or absent (R176). -/
theorem groupArg_some {b : Byte} (h : ¬(7 < b.toNat ∧ b.toNat < 0xFF)) :
    ∃ g, groupArg b = some g ∧ (match g with | none => b = 0xFF | some g => b.toNat = g.val) := by
  unfold groupArg
  by_cases hff : b = 0xFF
  · exact ⟨none, if_pos hff, hff⟩
  · have hne : b.toNat ≠ 0xFF := fun hb => hff (BitVec.eq_of_toNat_eq hb)
    have hlt : b.toNat < 8 := by have := b.isLt; omega
    refine ⟨some ⟨b.toNat, hlt⟩, ?_, rfl⟩
    rw [if_neg hff, asGroup, dif_pos hlt]

theorem groupArg_none {b : Byte} (h : 7 < b.toNat ∧ b.toNat < 0xFF) : groupArg b = none := by
  have hff : b ≠ 0xFF := by rintro rfl; exact absurd h.2 (by decide)
  rw [groupArg, if_neg hff, asGroup, dif_neg (by omega)]

/-- The action part in the claims' words. -/
theorem actionPart_some {b2 b3 b4 b5 : Byte} {c : WakeClass} {g : Option GroupIx} (hc : c.val = b4.toNat % 8)
    (hg : groupArg b5 = some g) :
    actionPart [b2, b3, b4, b5] = some (fun row =>
      { row with
        forward := b3.setWidth 7
        cls := c
        veto := b4.getLsbD 3
        group := g
        record := b4.getLsbD 4 }) := by
  have hclass : asClass (bitField b4 0 3) = some c := by
    rw [bitField_zero, show b4.toNat % 2 ^ 3 = c.val from hc.symm, asClass, dif_pos c.isLt]
  rw [actionPart, show argByte [b2, b3, b4, b5] 4 = b4 from rfl, show argByte [b2, b3, b4, b5] 5 = b5 from rfl, hclass, hg]
  rfl

theorem actionPart_none {b2 b3 b4 b5 : Byte} (h : 3 < b4.toNat % 8 ∨ (7 < b5.toNat ∧ b5.toNat < 0xFF)) :
    actionPart [b2, b3, b4, b5] = none := by
  rw [actionPart, show argByte [b2, b3, b4, b5] 4 = b4 from rfl, show argByte [b2, b3, b4, b5] 5 = b5 from rfl]
  rcases h with hc | hg
  · have hclass : asClass (bitField b4 0 3) = none := by
      rw [bitField_zero, show b4.toNat % 2 ^ 3 = b4.toNat % 8 from rfl, asClass, dif_neg (by omega)]
    rw [hclass]
  · rw [groupArg_none hg]
    cases asClass (bitField b4 0 3) <;> rfl

theorem wakeSetPart_eq (b2 b3 b4 : Byte) : wakeSetPart [b2, b3, b4] =
    some (fun row => { row with wake := BitVec.ofNat 12 (256 * b3.toNat + b4.toNat) }) := by
  rw [wakeSetPart, Nat.mul_comm 256]
  rfl

/-! ### The commit and the protect boundary (R39, R41, R42) -/

theorem State.commitIfReady_eq (u : State) :
    u.commitIfReady = if u.engine.commitPending = true ∧ u.engine.inFlight = none then committed u else u := by
  simp only [State.commitIfReady, Bool.and_eq_true, Option.isNone_iff_eq_none]
  rfl

end Sys2Proof.Machine

open Sys2Proof Sys2Proof.Machine Sys2Proof.Claims

/-- Settles O24: both requests are answered by their body, on the engine as it was before the frame. -/
theorem latchRequestsSetAndClearTheLatch : Obligations.LatchRequestsSetAndClearTheLatch := by
  intro s tag args hs
  refine ⟨⟨_, takeRequest_answered hs (Nat.zero_le _) (fun _ => rfl), rfl⟩,
    ⟨_, takeRequest_answered hs (Nat.zero_le _) (fun _ => rfl), ?_⟩⟩
  have hpending : (taken s).engine.commitPending = s.engine.commitPending := rfl
  rw [answerTableWriteDisable, hpending]
  split <;> rfl

/-- Settles O26: the four requests share the checks, which come before their fields. -/
theorem rowWritesAreRefusedInOrder : Obligations.RowWritesAreRefusedInOrder := by
  intro s tag b rest code w hs hlen hw
  obtain ⟨part, hexec⟩ := exec_rowWrite hs hlen hw
  have hrow : b.toNat < 128 → asRow (argByte (frameArgs (b :: rest)) 2).toNat = some (Fin.ofNat 128 b.toNat) := fun hb => by
    have hval : (Fin.ofNat 128 b.toNat).val = b.toNat := Nat.mod_eq_of_lt hb
    rw [show argByte (frameArgs (b :: rest)) 2 = b from rfl, ← asRow_val, hval]
  have hclosed : ∀ refusal, b.toNat < 128 → (taken s).stagingClosed = some refusal →
      Completes (exec w s) fun t => t = answered (taken s) [code, tag, replyCode refusal] := fun refusal hb hc => by
    refine ⟨_, hexec, ?_⟩
    rw [answerStageRow_closed (hrow hb) hc]
    cases refusal <;> rfl
  refine ⟨fun hb => ⟨_, hexec, ?_⟩, fun hb hp => hclosed .busy hb (State.stagingClosed_busy hp),
    fun hb hp hl => hclosed .latch hb (State.stagingClosed_latch hp hl), fun hb hp hl hbound => ⟨_, hexec, ?_⟩⟩
  · rw [answerStageRow_index (args := frameArgs (b :: rest)) hb]
    rfl
  · rw [answerStageRow_protected (u := taken s) (hrow hb) hp hl ((Nat.mod_le _ _).trans_lt hbound)]
    rfl

/-- Settles O25: an open row write is its part applied to the staging row. -/
theorem stageRowRequestsWriteTheirParts : Obligations.StageRowRequestsWriteTheirParts := by
  have writes : ∀ {s : State} {i : RowIx} {part : Option (Row → Row)} {rest : List Byte} {f : Row → Row}, StagingOpen s i →
      part = some f → answerStageRow part (BitVec.ofNat 8 i.val :: rest) (taken s) =
        (staged (taken s) i (f (stagingRow s i)), .bare .ok) := fun ho hf =>
    answerStageRow_some (u := taken _) (asRow_byte _) ho hf
  have refuses : ∀ {s : State} {i : RowIx} {part : Option (Row → Row)} {rest : List Byte}, StagingOpen s i → part = none →
      answerStageRow part (BitVec.ofNat 8 i.val :: rest) (taken s) = (taken s, .bare .value) := fun ho hf =>
    answerStageRow_none (u := taken _) (asRow_byte _) ho hf
  refine ⟨fun s i tag b3 b4 b5 b6 b7 hs ho => ⟨_, takeRequest_answered hs (Nat.le_refl 6) (fun _ => rfl), ?_⟩,
    fun s i tag b3 b4 b5 hs ho =>
      ⟨⟨_, takeRequest_answered hs (Nat.le_refl 4) (fun _ => rfl), ?_⟩,
       ⟨_, takeRequest_answered hs (Nat.le_refl 4) (fun _ => rfl), ?_⟩,
       ⟨_, takeRequest_answered hs (Nat.le_refl 3) (fun _ => rfl), ?_⟩⟩⟩
  · rw [show frameArgs [BitVec.ofNat 8 i.val, b3, b4, b5, b6, b7] = [BitVec.ofNat 8 i.val, b3, b4, b5, b6, b7] from rfl]
    beta_reduce
    by_cases hin : matchInRange b3 b5 b6 = true
    · rw [if_pos hin, writes ho ((matchPart_eq ..).trans (if_pos hin))]
      rfl
    · rw [if_neg hin, refuses ho ((matchPart_eq ..).trans (if_neg hin))]
      rfl
  · rw [show frameArgs [BitVec.ofNat 8 i.val, b3, b4, b5] = [BitVec.ofNat 8 i.val, b3, b4, b5] from rfl]
    beta_reduce
    by_cases h : b3.getLsbD 7 = true
    · rw [if_pos h]
      refine ⟨fun k hk => ?_, fun hk => ?_⟩
      · rw [writes ho (dataTestPart_present h k hk)]
        rfl
      · rw [refuses ho (dataTestPart_out h hk)]
        rfl
    · rw [if_neg h, writes ho (dataTestPart_absent h)]
      rfl
  · rw [show frameArgs [BitVec.ofNat 8 i.val, b3, b4, b5] = [BitVec.ofNat 8 i.val, b3, b4, b5] from rfl]
    beta_reduce
    by_cases hout : 3 < b4.toNat % 8 ∨ (7 < b5.toNat ∧ b5.toNat < 0xFF)
    · rw [if_pos hout, refuses ho (actionPart_none hout)]
      rfl
    · rw [if_neg hout]
      obtain ⟨hc, hg⟩ := not_or.mp hout
      obtain ⟨g, harg, hval⟩ := groupArg_some hg
      refine ⟨⟨b4.toNat % 8, by omega⟩, g, rfl, hval, ?_⟩
      rw [writes ho (actionPart_some (c := ⟨b4.toNat % 8, by omega⟩) rfl harg)]
      rfl
  · rw [show frameArgs [BitVec.ofNat 8 i.val, b3, b4] = [BitVec.ofNat 8 i.val, b3, b4] from rfl,
      writes ho (wakeSetPart_eq ..)]
    rfl

/-- Settles O28, by the flag, the latch and the evaluation in flight. -/
theorem commitCopiesTheStagingCopy : Obligations.CommitCopiesTheStagingCopy := by
  intro s tag args
  refine ⟨fun hs => ⟨_, takeRequest_next s 0x0F tag args manageCommitTable hs.1 hs.2, ?_⟩, ⟨_, rfl, ?_⟩⟩
  · unfold manageCommitTable
    dsimp only
    rw [State.heard_setPrepared]
    by_cases hp : s.engine.commitPending = true
    · rw [if_pos hp, State.stagingClosed_busy (u := taken s) hp]
      rfl
    · rw [if_neg hp]
      by_cases hl : s.engine.latch = false
      · rw [if_pos hl, State.stagingClosed_latch (u := taken s) (Bool.eq_false_iff.mpr hp) hl]
        rfl
      · rw [if_neg hl, State.stagingClosed_open (u := taken s) (Bool.eq_false_iff.mpr hp) (Bool.of_not_eq_false hl)]
        dsimp only
        rw [State.commitIfReady_eq]
        by_cases hf : s.engine.inFlight = none
        · rw [if_pos hf, if_pos ⟨rfl, hf⟩]
          rfl
        · rw [if_neg hf, if_neg (fun h => hf h.2)]
          rfl
  · rw [State.commitIfReady_eq]
    split <;> rfl

/-- Settles O30, by the branches of the request. -/
theorem setProtectBoundaryRaisesTheBoundary : Obligations.SetProtectBoundaryRaisesTheBoundary := by
  intro s tag b rest hs
  refine ⟨_, takeRequest_answered hs (by simp [frameArgs]) (fun _ => rfl), ?_⟩
  have hpending : (taken s).engine.commitPending = s.engine.commitPending := rfl
  have hboundary : (taken s).engine.boundary = s.engine.boundary := rfl
  have hbyte : argByte (frameArgs (b :: rest)) 2 = b := rfl
  rw [answerSetProtectBoundary, hbyte, hpending, hboundary]
  dsimp only
  by_cases hmax : 128 < b.toNat
  · rw [if_pos hmax, if_pos hmax]
    rfl
  · rw [if_neg hmax, if_neg hmax]
    by_cases hp : s.engine.commitPending = true
    · rw [if_pos hp, if_pos hp]
      rfl
    · rw [if_neg hp, if_neg hp]
      by_cases hlow : b.toNat < s.engine.boundary
      · rw [if_pos hlow, if_pos hlow]
        rfl
      · have hb : oneByte b.toNat = b := (BitVec.ofNat_toNat 8 b).trans (BitVec.setWidth_eq b)
        rw [if_neg hlow, if_neg hlow, hb]
        rfl

end

section
/-! Reading the table (O29): a row part is answered as the staging request lays it out, a group as its definition, and the hit
counts two at a time. -/

namespace Sys2Proof.Machine

open Sys2Proof.Claims

variable {s u : State}

/-! ### A part staged back is the part read (R43, R176) -/

theorem toNat_oneByte {n : Nat} (h : n < 256) : (oneByte n).toNat = n := by
  rw [oneByte, BitVec.toNat_ofNat, Nat.mod_eq_of_lt h]

theorem boolBit_le (b : Bool) : boolBit b ≤ 1 := by cases b <;> decide

theorem boolBit_eq_one (b : Bool) : boolBit b = 1 ↔ b = true := by cases b <;> decide

/-- A bit of a byte that holds one field below it, the bit, and nothing above. -/
theorem getLsbD_oneByte {n k : Nat} (hn : n < 256) (b : Bool) (h : n / 2 ^ k % 2 = boolBit b) : (oneByte n).getLsbD k = b := by
  rw [Bool.eq_iff_iff, getLsbD_iff, toNat_oneByte hn, h, boolBit_eq_one]

theorem modesOf_code (m : RowModes) : modesOf (rowModesCode m) = m := by cases m <;> rfl

theorem rowModesCode_range (m : RowModes) : 1 ≤ rowModesCode m ∧ rowModesCode m ≤ 3 := by cases m <;> decide

/-- A sources set from its low byte and its bit for T. -/
theorem sources_joined (x : BitVec 9) :
    BitVec.ofNat 9 ((x.setWidth 8).toNat + if x.getLsbD 8 = true then 256 else 0) = x := by
  have hx : x.toNat < 512 := x.isLt
  have hbit : x.getLsbD 8 = true ↔ x.toNat / 256 % 2 = 1 := by
    rw [BitVec.getLsbD, Nat.testBit_eq_decide_div_mod_eq, decide_eq_true_iff]
  apply BitVec.eq_of_toNat_eq
  rw [BitVec.toNat_ofNat, BitVec.toNat_setWidth]
  split
  · next h =>
    have := hbit.mp h
    omega
  · next h =>
    have hclear : ¬x.toNat / 256 % 2 = 1 := fun h1 => h (hbit.mpr h1)
    omega

theorem matchBytes_eq (row : Row) : matchBytes row =
    [oneByte (128 * boolBit row.valid + 4 * boolBit (row.sources.getLsbD 8) + rowModesCode row.modes), row.sources.setWidth 8,
      oneByte (row.ident.toNat / 16), oneByte (row.ident.toNat % 16 * 16 + row.mask.toNat / 256), oneByte row.mask.toNat] := by
  have hi : row.ident.toNat < 2048 := row.ident.isLt
  have hm : row.mask.toNat < 2048 := row.mask.isLt
  have hhigh : (row.ident.toNat * 4096 + row.mask.toNat) / 256 ^ 2 = row.ident.toNat / 16 := by omega
  have hmid : oneByte ((row.ident.toNat * 4096 + row.mask.toNat) / 256 ^ 1) =
      oneByte (row.ident.toNat % 16 * 16 + row.mask.toNat / 256) := by
    apply BitVec.eq_of_toNat_eq
    rw [oneByte, oneByte, BitVec.toNat_ofNat, BitVec.toNat_ofNat]
    omega
  have hlow : oneByte ((row.ident.toNat * 4096 + row.mask.toNat) / 256 ^ 0) = oneByte row.mask.toNat := by
    apply BitVec.eq_of_toNat_eq
    rw [oneByte, oneByte, BitVec.toNat_ofNat, BitVec.toNat_ofNat]
    omega
  rw [matchBytes, beBytes, beBytes, beBytes, beBytes, hhigh, ← oneByte, ← oneByte, ← oneByte, hmid, hlow]
  rfl

/-- Staging the match part of a row writes the row's match fields. -/
theorem matchPart_matchBytes (b : Byte) (row : Row) : matchPart (b :: matchBytes row) = some (fun r =>
    { r with valid := row.valid, sources := row.sources, ident := row.ident, mask := row.mask, modes := row.modes }) := by
  have hi : row.ident.toNat < 2048 := row.ident.isLt
  have hm : row.mask.toNat < 2048 := row.mask.isLt
  have hv := boolBit_le row.valid
  have ht := boolBit_le (row.sources.getLsbD 8)
  obtain ⟨hmodes, hmodes'⟩ := rowModesCode_range row.modes
  have hb3 : 128 * boolBit row.valid + 4 * boolBit (row.sources.getLsbD 8) + rowModesCode row.modes < 256 := by omega
  have h3 := toNat_oneByte hb3
  have h5 := toNat_oneByte (show row.ident.toNat / 16 < 256 by omega)
  have h6 := toNat_oneByte (show row.ident.toNat % 16 * 16 + row.mask.toNat / 256 < 256 by omega)
  have h7 : (oneByte row.mask.toNat).toNat = row.mask.toNat % 256 := BitVec.toNat_ofNat _ _
  have hvalid : (oneByte (128 * boolBit row.valid + 4 * boolBit (row.sources.getLsbD 8) + rowModesCode row.modes)).getLsbD 7 =
      row.valid := getLsbD_oneByte hb3 _ (by omega)
  have htimer : (oneByte (128 * boolBit row.valid + 4 * boolBit (row.sources.getLsbD 8) + rowModesCode row.modes)).getLsbD 2 =
      row.sources.getLsbD 8 := getLsbD_oneByte hb3 _ (by omega)
  have hcode : (128 * boolBit row.valid + 4 * boolBit (row.sources.getLsbD 8) + rowModesCode row.modes) % 4 =
      rowModesCode row.modes := by omega
  have hident : 16 * (row.ident.toNat / 16) + (row.ident.toNat % 16 * 16 + row.mask.toNat / 256) / 16 = row.ident.toNat := by omega
  have hmask : 256 * ((row.ident.toNat % 16 * 16 + row.mask.toNat / 256) % 16) + row.mask.toNat % 256 = row.mask.toNat := by omega
  rw [matchBytes_eq, matchPart_eq, hvalid, htimer, h3, h5, h6, h7, hcode, hident, hmask, sources_joined, modesOf_code,
    BitVec.ofNat_toNat, BitVec.setWidth_eq, BitVec.ofNat_toNat, BitVec.setWidth_eq]
  refine if_pos ?_
  simp only [matchInRange, Bool.and_eq_true, Bool.not_eq_true', bne_iff_ne, ← Bool.not_eq_true, getLsbD_iff, h3, h5, h6, hcode]
  omega

/-- Staging the data-test part of a row writes the row's data test. -/
theorem dataTestPart_dataTestBytes (b : Byte) (row : Row) :
    (dataTestBytes row).length = 3 ∧
      dataTestPart (b :: dataTestBytes row) = some (fun r => { r with test := row.test }) := by
  unfold dataTestBytes
  cases row.test with
  | none => exact ⟨rfl, dataTestPart_absent (by decide)⟩
  | some t =>
    have hindex : t.index.val < 8 := t.index.isLt
    have hlt : 128 + t.index.val < 256 := by omega
    refine ⟨rfl, ?_⟩
    dsimp only
    rw [dataTestPart_present (getLsbD_oneByte hlt true (by rw [boolBit]; simp; omega)) t.index
      (by rw [toNat_oneByte hlt]; omega)]

theorem groupArg_optionByte (g : Option GroupIx) : groupArg (optionByte (g.map (fun g => g.val))) = some g := by
  cases g with
  | none => rfl
  | some g => revert g; decide

/-- Staging the action part of a row writes the row's action fields. -/
theorem actionPart_actionBytes (b : Byte) (row : Row) : actionPart (b :: actionBytes row) = some (fun r =>
    { r with forward := row.forward, cls := row.cls, veto := row.veto, group := row.group, record := row.record }) := by
  have hc : row.cls.val < 4 := row.cls.isLt
  have hv := boolBit_le row.veto
  have hr := boolBit_le row.record
  have hlt : row.cls.val + 8 * boolBit row.veto + 16 * boolBit row.record < 256 := by omega
  have hforward : (row.forward.setWidth 8).setWidth 7 = row.forward := by
    apply BitVec.eq_of_toNat_eq
    have : row.forward.toNat < 128 := row.forward.isLt
    rw [BitVec.toNat_setWidth, BitVec.toNat_setWidth]
    omega
  have hveto : (oneByte (row.cls.val + 8 * boolBit row.veto + 16 * boolBit row.record)).getLsbD 3 = row.veto :=
    getLsbD_oneByte hlt _ (by omega)
  have hrecord : (oneByte (row.cls.val + 8 * boolBit row.veto + 16 * boolBit row.record)).getLsbD 4 = row.record :=
    getLsbD_oneByte hlt _ (by omega)
  rw [actionBytes, actionPart_some (c := row.cls) (g := row.group) (by rw [toNat_oneByte hlt]; omega)
    (groupArg_optionByte row.group), portSetByte, hforward, hveto, hrecord]

/-- Staging the wake-set part of a row writes the row's wake set. -/
theorem wakeSetPart_wakeSetBytes (b : Byte) (row : Row) :
    wakeSetPart (b :: wakeSetBytes row) = some (fun r => { r with wake := row.wake }) := by
  have hw : row.wake.toNat < 4096 := row.wake.isLt
  have hjoined : BitVec.ofNat 12 (256 * (BitVec.ofNat 8 (row.wake.toNat / 256) : Byte).toNat +
      (BitVec.ofNat 8 row.wake.toNat : Byte).toNat) = row.wake := by
    apply BitVec.eq_of_toNat_eq
    rw [BitVec.toNat_ofNat, BitVec.toNat_ofNat, BitVec.toNat_ofNat]
    omega
  rw [wakeSetBytes, domainSetBytes, beBytes_two, two, wakeSetPart_eq, hjoined]

/-! ### Read Row Part (R43) -/

variable {args : List Byte}

/-- A copy of the table, by the staging flag. -/
def State.copy (s : State) (staging : Bool) : Table := if staging = true then s.engine.staging else s.engine.active

theorem tableCopy_eq (s : State) (staging : Bool) : tableCopy s (if staging = true then (1 : Byte) else 0).toNat = some (s.copy staging) := by
  cases staging <;> rfl

theorem asGroup_val (g : GroupIx) : asGroup g.val = some g := by simp [asGroup]

theorem asGroup_byte (g : GroupIx) : asGroup (BitVec.ofNat 8 g.val : Byte).toNat = some g := by
  rw [BitVec.toNat_ofNat, Nat.mod_eq_of_lt (by omega), asGroup_val]

theorem asGroup_of_le {n : Nat} (h : 8 ≤ n) : asGroup n = none := by simp [asGroup, Nat.not_lt.mpr h]

/-- A part of a copy that exists is answered OK. -/
theorem exec_readRowPart {tag copy part index : Byte} (hs : Executes s) :
    exec (.readRowPart tag [copy, part, index]) s = .next
      (answered (answerReadRowPart [copy, part, index] (taken s)).1
        (responseBytes 0x10 tag (answerReadRowPart [copy, part, index] (taken s)).2)) :=
  takeRequest_answered hs (Nat.le_refl 3) (fun _ => rfl)

theorem answerReadRowPart_some {copy part index : Byte} {t : Table} {data : List Byte} (ht : tableCopy u copy.toNat = some t)
    (hd : tablePartBytes t part.toNat index.toNat = some data) :
    answerReadRowPart [copy, part, index] u = (u, .okay data) := by
  rw [answerReadRowPart, show argByte [copy, part, index] 2 = copy from rfl, show argByte [copy, part, index] 3 = part from rfl,
    show argByte [copy, part, index] 4 = index from rfl, ht]
  dsimp only
  rw [hd]
  rfl

/-- A part or an index that a copy does not have. -/
theorem answerReadRowPart_missing {copy part index : Byte} {t : Table} (ht : tableCopy u copy.toNat = some t)
    (hd : tablePartBytes t part.toNat index.toNat = none) : answerReadRowPart [copy, part, index] u = (u, .bare .index) := by
  rw [answerReadRowPart, show argByte [copy, part, index] 2 = copy from rfl, show argByte [copy, part, index] 3 = part from rfl,
    show argByte [copy, part, index] 4 = index from rfl, ht]
  dsimp only
  rw [hd]
  rfl

/-- A copy that does not exist. -/
theorem answerReadRowPart_noCopy {copy part index : Byte} {data : List Byte} (ht : tableCopy u copy.toNat = none)
    (hd : tablePartBytes u.engine.active part.toNat index.toNat = some data) :
    answerReadRowPart [copy, part, index] u = (u, .bare .value) := by
  rw [answerReadRowPart, show argByte [copy, part, index] 2 = copy from rfl, show argByte [copy, part, index] 3 = part from rfl,
    show argByte [copy, part, index] 4 = index from rfl, ht]
  dsimp only
  rw [hd]

theorem tableCopy_le {n : Nat} (h : n ≤ 1) : ∃ t, tableCopy u n = some t := by
  interval_cases n <;> exact ⟨_, rfl⟩

theorem tableCopy_of_lt {n : Nat} (h : 1 < n) : tableCopy u n = none := by
  match n with
  | n + 2 => rfl

/-- A Read Row Part of a part that exists. -/
theorem readRowPart_completes {tag part index : Byte} {staging : Bool} {data : List Byte} (hs : Executes s)
    (hd : tablePartBytes (s.copy staging) part.toNat index.toNat = some data) :
    exec (.readRowPart tag [if staging = true then 1 else 0, part, index]) s =
      .next (answered (taken s) (0x10 :: tag :: 0 :: data)) := by
  rw [exec_readRowPart hs, answerReadRowPart_some (u := taken s) (tableCopy_eq (taken s) staging) hd]
  rfl

/-- A part exists where its code is at most 4 and it has the index: a group of eight for part 4, and otherwise a row. -/
theorem tablePartBytes_isSome (t : Table) (part index : Nat) :
    (tablePartBytes t part index).isSome = true ↔ ¬(4 < part ∨ (part = 4 ∧ 8 ≤ index) ∨ (part < 4 ∧ 128 ≤ index)) := by
  have hrow : (asRow index).isSome = true ↔ index < 128 := by
    unfold asRow
    split <;> simp [*]
  have hgroup : (asGroup index).isSome = true ↔ index < 8 := by
    unfold asGroup
    split <;> simp [*]
  match part with
  | 0 | 1 | 2 | 3 =>
    rw [tablePartBytes, Option.isSome_map, hrow]
    omega
  | 4 =>
    rw [tablePartBytes, Option.isSome_map, hgroup]
    omega
  | n + 5 =>
    rw [tablePartBytes]
    · simp
    all_goals omega

/-! ### Read Hits (R43) -/

theorem exec_readHits {tag b : Byte} {rest : List Byte} (hs : Executes s) :
    exec (.readHits tag (b :: rest)) s = .next (answered (answerReadHits (frameArgs (b :: rest)) (taken s)).1
      (responseBytes 0x11 tag (answerReadHits (frameArgs (b :: rest)) (taken s)).2)) :=
  takeRequest_answered hs (by simp [frameArgs]) (fun _ => rfl)

theorem answerReadHits_of_lt {b : Byte} {rest : List Byte} (h : b.toNat < 128) :
    answerReadHits (frameArgs (b :: rest)) u = (u, .okay (two (u.hitCount b.toNat) ++ two (u.hitCount (b.toNat + 1)))) := by
  rw [answerReadHits, show argByte (frameArgs (b :: rest)) 2 = b from rfl, if_pos h, beBytes_two, beBytes_two]
  rfl

theorem answerReadHits_of_le {b : Byte} {rest : List Byte} (h : 128 ≤ b.toNat) :
    answerReadHits (frameArgs (b :: rest)) u = (u, .bare .index) := by
  rw [answerReadHits, show argByte (frameArgs (b :: rest)) 2 = b from rfl, if_neg (Nat.not_lt.mpr h)]
  rfl

theorem State.hitCount_val (u : State) (i : RowIx) : u.hitCount i.val = u.engine.hits.get i := by
  rw [State.hitCount, asRow_val]

end Sys2Proof.Machine

open Sys2Proof Sys2Proof.Machine Sys2Proof.Claims

/-- Settles O29, by the part, and by the row of the hit counts. -/
theorem readRowPartAndReadHitsReportTheTable : Obligations.ReadRowPartAndReadHitsReportTheTable := by
  refine ⟨fun s tag i staging hs => ?_, fun s tag g staging hs => ?_, fun s tag copy part index hs => ?_,
    fun s tag b rest hs => ?_⟩
  · have hrow := asRow_byte i
    have read : ∀ {part : Byte} {data : List Byte}, tablePartBytes (s.copy staging) part.toNat
        (BitVec.ofNat 8 i.val : Byte).toNat = some data → _ := fun hd => readRowPart_completes (tag := tag) hs hd
    refine ⟨⟨_, read (part := 0) (congrArg (Option.map _) hrow), _, rfl, rfl, _, matchPart_matchBytes _ _, fun _ => rfl⟩,
      ⟨_, read (part := 1) (congrArg (Option.map _) hrow), _, (dataTestPart_dataTestBytes 0 _).1, rfl, _,
        (dataTestPart_dataTestBytes _ _).2, fun _ => rfl⟩,
      ⟨_, read (part := 2) (congrArg (Option.map _) hrow), _, rfl, rfl, _, actionPart_actionBytes _ _, fun _ => rfl⟩,
      ⟨_, read (part := 3) (congrArg (Option.map _) hrow), _, rfl, rfl, _, wakeSetPart_wakeSetBytes _ _, fun _ => rfl⟩⟩
  · refine ⟨_, readRowPart_completes (part := 4) hs (congrArg (Option.map _) (asGroup_byte g)), ?_⟩
    have hbyte : ∀ b : Bool, 128 * boolBit b = if b = true then 128 else 0 := by decide
    beta_reduce
    rw [groupBytes, beBytes_two, domainSetBytes, beBytes_two, hbyte]
    rfl
  · refine ⟨fun hcopy hmissing => ⟨_, exec_readRowPart hs, ?_⟩, fun hcopy hexists => ⟨_, exec_readRowPart hs, ?_⟩⟩
    · obtain ⟨t, ht⟩ := tableCopy_le (u := taken s) hcopy
      have hdata : tablePartBytes t part.toNat index.toNat = none := by
        rw [← Option.not_isSome_iff_eq_none, tablePartBytes_isSome, not_not]
        exact hmissing
      rw [answerReadRowPart_missing ht hdata]
      rfl
    · obtain ⟨data, hdata⟩ := Option.isSome_iff_exists.mp ((tablePartBytes_isSome (taken s).engine.active _ _).mpr hexists)
      rw [answerReadRowPart_noCopy (tableCopy_of_lt hcopy) hdata]
      rfl
  · refine ⟨fun hb => ⟨_, exec_readHits hs, ?_⟩, fun i hi => ⟨_, exec_readHits hs, fun hlast => ?_, fun k hk => ?_⟩⟩
    · rw [answerReadHits_of_le hb]
      rfl
    · rw [answerReadHits_of_lt (by omega), ← hi, State.hitCount_val, hlast, State.hitCount, asRow_of_le (Nat.le_refl 128)]
      rfl
    · rw [answerReadHits_of_lt (by omega), ← hi, State.hitCount_val, ← hk, State.hitCount_val]
      rfl

end

section
/-! Each domain's own part of a pass over the domains, and the frames that a domain recognises (O52). -/

namespace Sys2Proof.Machine

open Sys2Proof.Claims

variable {s t : State} {r : FrameRecord} {d e : Domain} {i : Ident}

/-! ### A pass over the domains -/

/-- Every domain stands once in the order of a pass. -/
theorem finRange_split (d : Domain) : ∃ before after, List.finRange 12 = before ++ d :: after ∧ d ∉ before ∧ d ∉ after := by
  obtain ⟨before, after, hsplit⟩ := List.append_of_mem (List.mem_finRange d)
  have hnodup := List.nodup_finRange 12
  rw [hsplit, List.nodup_middle, List.nodup_cons, List.mem_append, not_or] at hnodup
  exact ⟨before, after, hsplit, hnodup.1⟩

/-- What a pass leaves of a domain that it does not come to. -/
theorem foldl_spares {β : Type} (view : State → β) {f : State → Domain → State}
    (hf : ∀ u e, e ≠ d → view (f u e) = view u) (l : List Domain) (hd : d ∉ l) (s : State) :
    view (l.foldl f s) = view s := by
  induction l generalizing s with
  | nil => rfl
  | cons e l ih =>
    obtain ⟨he, hl⟩ := List.ne_and_not_mem_of_not_mem_cons hd
    rw [List.foldl_cons, ih hl, hf s e he.symm]

/-- A pass that changes each domain by its own operation alone leaves a domain as that operation does. -/
theorem State.eachDomain_at {β : Type} (view : State → β) {f : State → Domain → State}
    (hf : ∀ u e, e ≠ d → view (f u e) = view u) (s : State) :
    ∃ u, view u = view s ∧ view (s.eachDomain f) = view (f u d) := by
  obtain ⟨before, after, hsplit, hbefore, hafter⟩ := finRange_split d
  refine ⟨before.foldl f s, foldl_spares view hf before hbefore s, ?_⟩
  rw [State.eachDomain, hsplit, List.foldl_append, List.foldl_cons]
  exact foldl_spares view hf after hafter _

/-! ### The frames of one domain (R80, R82, R83, R86, R92) -/

/-- The record of a domain and its place among the slot holders. -/
def State.seat (s : State) (d : Domain) : DomainRec × Option HoldPhase := (s.dom d, s.slots.holders.get d)

theorem State.seat_eq_iff : t.seat d = s.seat d ↔ t.dom d = s.dom d ∧ t.slots.holders.get d = s.slots.holders.get d :=
  Prod.mk.injEq .. |>.to_iff

theorem State.seat_updDom_ne (h : d ≠ e) (f : DomainRec → DomainRec) : (s.updDom e f).seat d = s.seat d :=
  State.seat_eq_iff.mpr ⟨State.dom_updDom_ne _ _ h, rfl⟩

theorem State.seat_switchOff_ne (h : d ≠ e) (st : DomainState) (f : DomainRec → DomainRec) :
    (s.switchOff e st f).seat d = s.seat d :=
  State.seat_eq_iff.mpr ⟨s.switchOff_dom_ne h st f, by rw [State.switchOff_slots]; exact Tab.get_set_ne _ _ h⟩

theorem State.seat_becomeReady_ne (h : d ≠ e) : (s.becomeReady e).seat d = s.seat d := by
  obtain ⟨-, -, -, -, hothers⟩ := s.becomeReady_spec e
  exact State.seat_eq_iff.mpr (hothers d h)

theorem State.seat_recognise_ne (h : d ≠ e) (i : Ident) : (s.recognise e i).seat d = s.seat d := by
  have hfault : (s.faultFrame e).seat d = s.seat d :=
    State.ite_keeps (·.seat d) (State.seat_switchOff_ne h _ _) (State.seat_updDom_ne h _)
  have hannounce : (s.announceFrame e).seat d = s.seat d :=
    State.ite_keeps (·.seat d) (State.seat_becomeReady_ne h) (State.seat_updDom_ne h _)
  have hsleep : ∀ t : State, (t.sleepReadyFrame e).seat d = t.seat d := fun t =>
    State.ite_keeps (·.seat d) (State.seat_switchOff_ne h _ _) (State.seat_updDom_ne h _)
  have hactivity : ∀ t : State, (t.activityFrame e i).seat d = t.seat d := fun t =>
    State.ite_keeps (·.seat d) (State.seat_updDom_ne h _) rfl
  unfold State.recognise
  dsimp only
  refine State.ite_keeps (·.seat d) hfault ((hactivity _).trans ?_)
  split
  · exact (hsleep _).trans (State.ite_keeps (·.seat d) hannounce rfl)
  · exact State.ite_keeps (·.seat d) hannounce rfl

theorem State.dom_ignoreFrame (s : State) (d : Domain) :
    (s.ignoreFrame d).dom d = { s.dom d with ignored := counted (s.dom d).ignored } := State.dom_updDom_self _ _ _

/-- A fault frame. -/
theorem State.faultFrame_spec (s : State) (d : Domain) :
    if (s.dom d).state = .powering ∨ (s.dom d).state = .awake ∨ (s.dom d).state = .winding then
      (∃ n, (s.faultFrame d).dom d = { (s.dom d).stopAtFault.down .fault with notice := n }) ∧
        (s.faultFrame d).slots.holders.get d = none
    else (s.faultFrame d).dom d = { s.dom d with ignored := counted (s.dom d).ignored } := by
  have hpowered : (s.dom d).state.powered = true ↔
      ((s.dom d).state = .powering ∨ (s.dom d).state = .awake ∨ (s.dom d).state = .winding) := by
    cases (s.dom d).state <;> decide
  unfold State.faultFrame
  split
  · next h =>
    rw [if_pos (hpowered.mpr h)]
    exact ⟨s.switchOff_dom_self d (.inr rfl) _, s.switchOff_holder d _ _⟩
  · next h =>
    rw [if_neg (fun hp => h (hpowered.mp hp))]
    exact s.dom_ignoreFrame d

/-- The check for an announce frame. -/
def State.announceCheck (s : State) (d : Domain) (i : Ident) : State :=
  if (s.dom d).params.announceId = some i then s.announceFrame d else s

theorem State.announceCheck_spec (s : State) (d : Domain) (i : Ident) :
    (readies (s.dom d) i → ∃ b, (s.announceCheck d i).dom d = { (s.dom d).risen with slotHeld := b }) ∧
      (¬readies (s.dom d) i → (s.announceCheck d i).dom d =
        { s.dom d with
          ignored := countedBy (if (s.dom d).params.announceId = some i ∧ ¬readies (s.dom d) i then 1 else 0)
            (s.dom d).ignored }) := by
  unfold State.announceCheck
  by_cases hid : (s.dom d).params.announceId = some i
  · have hmode : (s.dom d).effectiveReady = .announce ↔ (s.dom d).params.readyMode = .announce := by
      rw [DomainRec.effectiveReady_eq, hid]
      cases (s.dom d).params.readyMode <;> simp
    rw [if_pos hid, State.announceFrame]
    refine ⟨fun h => ?_, fun h => ?_⟩
    · rw [if_pos ⟨h.2.1, hmode.mpr h.2.2⟩]
      exact (s.becomeReady_spec d).1
    · rw [if_neg (fun hready => h ⟨hid, hready.1, hmode.mp hready.2⟩), if_pos ⟨hid, h⟩]
      exact s.dom_ignoreFrame d
  · rw [if_neg hid]
    refine ⟨fun h => absurd h.1 hid, fun _ => ?_⟩
    rw [if_neg (fun h => hid h.1)]
    rfl

/-- The check for a sleep-ready frame. -/
def State.sleepReadyCheck (s : State) (d : Domain) (i : Ident) : State :=
  if (s.dom d).params.sleepReadyId = some i then s.sleepReadyFrame d else s

theorem State.sleepReadyCheck_spec (s : State) (d : Domain) (i : Ident) :
    (winds (s.dom d) i →
      (∃ n, (s.sleepReadyCheck d i).dom d = { (s.dom d).stopWinding.down .asleep with notice := n }) ∧
        (s.sleepReadyCheck d i).slots.holders.get d = none) ∧
      (¬winds (s.dom d) i → (s.sleepReadyCheck d i).dom d =
        { s.dom d with
          ignored := countedBy (if (s.dom d).params.sleepReadyId = some i ∧ ¬winds (s.dom d) i then 1 else 0)
            (s.dom d).ignored }) := by
  unfold State.sleepReadyCheck
  by_cases hid : (s.dom d).params.sleepReadyId = some i
  · rw [if_pos hid, State.sleepReadyFrame]
    refine ⟨fun h => ?_, fun h => ?_⟩
    · rw [if_pos h.2]
      exact ⟨s.switchOff_dom_self d (.inl rfl) _, s.switchOff_holder d _ _⟩
    · rw [if_neg (fun hwinding => h ⟨hid, hwinding⟩), if_pos ⟨hid, h⟩]
      exact s.dom_ignoreFrame d
  · rw [if_neg hid]
    refine ⟨fun h => absurd h.1 hid, fun _ => ?_⟩
    rw [if_neg (fun h => hid h.1)]
    rfl

theorem isActivity_iff (q : DomainParams) (i : Ident) : q.isActivity i = true ↔ isActivity q i := by
  unfold DomainParams.isActivity
  cases hq : q.activity with
  | none => simp [hq]
  | some x =>
    rw [isActivity, hq]
    exact (and_beq_and_iff i x.1 x.2).trans (by simp)

/-- The check for activity. -/
theorem State.activityFrame_spec (s : State) (d : Domain) (i : Ident) :
    (s.activityFrame d i).slots = s.slots ∧ (s.activityFrame d i).dom d =
      { s.dom d with
        idleTimer := if (s.dom d).state = .awake ∧ isActivity (s.dom d).params i then .running (s.dom d).params.idleTimeout
          else (s.dom d).idleTimer } := by
  unfold State.activityFrame
  simp only [isActivity_iff]
  split
  · exact ⟨rfl, State.dom_updDom_self _ _ _⟩
  · exact ⟨rfl, rfl⟩

/-- A frame that is not the domain's fault frame passes the other three checks. -/
theorem State.recognise_of_ne_fault (h : (s.dom d).params.faultId ≠ some i) :
    s.recognise d i = ((s.announceCheck d i).sleepReadyCheck d i).activityFrame d i := by
  have hparams : ((s.announceCheck d i).dom d).params = (s.dom d).params := by
    obtain ⟨hready, hnot⟩ := s.announceCheck_spec d i
    by_cases hr : readies (s.dom d) i
    · obtain ⟨b, hb⟩ := hready hr
      rw [hb]
      rfl
    · rw [hnot hr]
  rw [State.sleepReadyCheck, hparams]
  exact if_neg h

theorem countedBy_add (m n c : Nat) : countedBy m (countedBy n c) = countedBy (n + m) c := by
  induction m with
  | zero => rfl
  | succ m ih => exact congrArg counted ih

/-! #### The three courses of a frame that is not the domain's fault frame -/

theorem State.recognise_readies (hfault : (s.dom d).params.faultId ≠ some i) (h : readies (s.dom d) i) :
    ∃ b, (s.recognise d i).dom d =
      { (s.dom d).risen with slotHeld := b, ignored := countedBy (ignoredFrames (s.dom d) i) (s.dom d).ignored } := by
  obtain ⟨b, hrisen⟩ := (s.announceCheck_spec d i).1 h
  rw [State.recognise_of_ne_fault hfault]
  generalize s.announceCheck d i = t at hrisen ⊢
  have hslept := (t.sleepReadyCheck_spec d i).2 (fun hw => by rw [hrisen] at hw; cases hw.2)
  generalize t.sleepReadyCheck d i = u at hslept ⊢
  rw [(u.activityFrame_spec d i).2, hslept, hrisen]
  refine ⟨b, ?_⟩
  simp [ignoredFrames, h, winds, DomainRec.risen]

theorem State.recognise_winds (hfault : (s.dom d).params.faultId ≠ some i) (h : winds (s.dom d) i) :
    (∃ n, (s.recognise d i).dom d =
      { (s.dom d).stopWinding.down .asleep with
        notice := n, ignored := countedBy (ignoredFrames (s.dom d) i) (s.dom d).ignored }) ∧
      (s.recognise d i).slots.holders.get d = none := by
  have hready : ¬readies (s.dom d) i := fun hr => absurd (hr.2.1.symm.trans h.2) (by decide)
  have hheard := (s.announceCheck_spec d i).2 hready
  rw [State.recognise_of_ne_fault hfault]
  generalize s.announceCheck d i = t at hheard ⊢
  obtain ⟨⟨n, hslept⟩, hholder⟩ := (t.sleepReadyCheck_spec d i).1 (by rw [hheard]; exact h)
  generalize t.sleepReadyCheck d i = u at hslept hholder ⊢
  obtain ⟨hslots, hactive⟩ := u.activityFrame_spec d i
  rw [hslots, hactive, hslept, hheard]
  refine ⟨⟨n, ?_⟩, hholder⟩
  simp [ignoredFrames, h, hready, DomainRec.down, DomainRec.stopWinding]

theorem State.recognise_ignored (hfault : (s.dom d).params.faultId ≠ some i) (hready : ¬readies (s.dom d) i)
    (hwind : ¬winds (s.dom d) i) : (s.recognise d i).dom d =
      { s.dom d with
        ignored := countedBy (ignoredFrames (s.dom d) i) (s.dom d).ignored
        idleTimer := if (s.dom d).state = .awake ∧ isActivity (s.dom d).params i then .running (s.dom d).params.idleTimeout
          else (s.dom d).idleTimer } := by
  have hheard := (s.announceCheck_spec d i).2 hready
  rw [State.recognise_of_ne_fault hfault]
  generalize s.announceCheck d i = t at hheard ⊢
  have hslept := (t.sleepReadyCheck_spec d i).2 (by rw [hheard]; exact hwind)
  generalize t.sleepReadyCheck d i = u at hslept ⊢
  rw [(u.activityFrame_spec d i).2, hslept, hheard]
  dsimp only
  rw [countedBy_add]
  rfl

/-! ### A record that no row matches -/

theorem State.directWake_nil (s : State) (d : Domain) : s.directWake [] d = s := by
  unfold State.directWake
  dsimp only [List.filter_nil]
  exact ite_self s

/-- With no matching row no domain is woken directly, and no group takes a contribution. -/
theorem State.wakesOf_nil (s : State) : s.wakesOf [] = s :=
  State.eachDomain_keeps id (fun s d => s.directWake [] d) State.directWake_nil s

/-- Forwarding and recording change ports and captures at most. -/
theorem State.forwardAndRecord_aside (s : State) (ixs : List RowIx) (r : FrameRecord) :
    (s.forwardAndRecord ixs r).domains = s.domains ∧ (s.forwardAndRecord ixs r).slots = s.slots ∧
      (s.forwardAndRecord ixs r).causes = s.causes ∧ (s.forwardAndRecord ixs r).account = s.account := by
  have hsent : ∀ fs, _ := fun fs => State.foldl_keeps (fun t => (t.domains, t.slots, t.causes, t.account))
    (fun s p => if hasPort fs p = true then s.updPort p (fun u => u.offerForward (.frame r.ident r.data false)) else s)
    (fun t p => by split <;> rfl) (List.finRange 7) s
  simp only [Prod.mk.injEq] at hsent
  unfold State.forwardAndRecord
  dsimp only
  split
  · rw [State.recordFrame_domains, State.recordFrame_slots, State.recordFrame_causes, State.recordFrame_account]
    exact hsent _
  · exact hsent _

/-- A record that no row matches: all that the domains, the slots, the account and the Cause Queue see is its recognition. -/
theorem State.complete_unmatched (h : ∀ i : RowIx, ¬rowMatches s r i) :
    (s.idleEngine.complete r).domains = ((s.tallied r).recogniseRecord r).domains ∧
      (s.idleEngine.complete r).slots = ((s.tallied r).recogniseRecord r).slots ∧
      (s.idleEngine.complete r).causes = ((s.tallied r).recogniseRecord r).causes ∧
      (s.idleEngine.complete r).account = ((s.tallied r).recogniseRecord r).account := by
  rw [State.complete_eq, State.closeIfComplete_domains, State.closeIfComplete_slots, State.closeIfComplete_causes,
    State.closeIfComplete_account, State.handled, matching_eq_nil.mpr h, State.wakesOf_nil]
  exact State.forwardAndRecord_aside _ _ r

theorem State.tallied_rest (s : State) (r : FrameRecord) :
    (s.tallied r).slots = s.slots ∧ (s.tallied r).causes = s.causes ∧ (s.tallied r).account = s.account := by
  unfold State.tallied State.countUnmatched
  split <;> exact ⟨rfl, rfl, rfl⟩

end Sys2Proof.Machine

open Sys2Proof Sys2Proof.Machine Sys2Proof.Claims

/-- Settles O52, by the domain: its own checks are the one part of the pass over the domains that touches it. -/
theorem framesOfADomainAreRecognised : Obligations.FramesOfADomainAreRecognised := by
  intro s r p hflight hsource hunmatched
  refine ⟨s.idleEngine.complete r, by simp only [exec, execEvaluationCompletion, hflight], ?_⟩
  obtain ⟨hdomains, hslots, hcauses, haccount⟩ := State.complete_unmatched hunmatched
  obtain ⟨hslots₀, hcauses₀, haccount₀⟩ := s.tallied_rest r
  have hrecord : (s.tallied r).recogniseRecord r = (s.tallied r).offerToDomains p r.ident := by
    rw [State.recogniseRecord, hsource]
  rw [hrecord] at hdomains hslots hcauses haccount
  refine ⟨hcauses.trans ((State.offerToDomains_causes _ p _).trans hcauses₀),
    haccount.trans ((State.offerToDomains_account _ p _).trans haccount₀), fun d => ?_⟩
  obtain ⟨u, hu, ht⟩ := State.eachDomain_at (d := d) (·.seat d)
    (f := fun s d => if s.portOf d = p then s.recognise d r.ident else s)
    (fun t e he => State.ite_keeps (·.seat d) (State.seat_recognise_ne he.symm _) rfl) (s.tallied r)
  obtain ⟨hdom, -⟩ := State.seat_eq_iff.mp hu
  obtain ⟨hdom', hholder'⟩ := State.seat_eq_iff.mp ht
  rw [State.dom_of_domains (s.tallied_aside r).1] at hdom
  have hport : u.portOf d = s.portOf d := by rw [State.portOf, hdom]; rfl
  rw [State.dom_of_domains hdomains, hslots, State.offerToDomains, hdom', hholder', hport, ← hdom]
  by_cases hat : s.portOf d = p
  · rw [if_pos hat]
    by_cases hfault : (u.dom d).params.faultId = some r.ident
    · have hrec : u.recognise d r.ident = u.faultFrame d := if_pos hfault
      have hspec := u.faultFrame_spec d
      rw [hrec]
      split at hspec
      · next hpowered =>
        obtain ⟨⟨n, hspec⟩, hfree⟩ := hspec
        rw [hspec]
        refine ⟨rfl, rfl, fun h => absurd hat h, fun _ _ => ?_, fun _ h => absurd hfault h⟩
        rw [if_pos hpowered]
        exact ⟨rfl, rfl, rfl, rfl, rfl, rfl, rfl, rfl, rfl, hfree⟩
      · next hpowered =>
        rw [hspec]
        refine ⟨rfl, rfl, fun h => absurd hat h, fun _ _ => ?_, fun _ h => absurd hfault h⟩
        rw [if_neg hpowered]
    · by_cases hready : readies (u.dom d) r.ident
      · obtain ⟨b, hspec⟩ := State.recognise_readies hfault hready
        rw [hspec]
        refine ⟨rfl, rfl, fun h => absurd hat h, fun _ h => absurd h hfault, fun _ _ => ⟨rfl, rfl, fun _ => ?_,
          fun h => ?_, fun h => absurd hready h⟩⟩
        · exact ⟨rfl, rfl, rfl, rfl, rfl, rfl⟩
        · exact absurd (hready.2.1.symm.trans h.2) (by decide)
      · by_cases hwind : winds (u.dom d) r.ident
        · obtain ⟨⟨n, hspec⟩, hfree⟩ := State.recognise_winds hfault hwind
          rw [hspec]
          refine ⟨rfl, rfl, fun h => absurd hat h, fun _ h => absurd h hfault, fun _ _ => ⟨rfl, rfl,
            fun h => absurd h hready, fun _ => ?_, fun _ h => absurd hwind h⟩⟩
          exact ⟨rfl, rfl, rfl, rfl, rfl, rfl, hfree⟩
        · rw [State.recognise_ignored hfault hready hwind]
          exact ⟨rfl, rfl, fun h => absurd hat h, fun _ h => absurd h hfault, fun _ _ => ⟨rfl, rfl,
            fun h => absurd h hready, fun h => absurd h hwind, fun _ _ => rfl⟩⟩
  · rw [if_neg hat]
    exact ⟨rfl, rfl, fun _ => rfl, fun h => absurd h hat, fun h => absurd h hat⟩

end

section
/-! One wake request in the claims' words, and a round of them: each domain of a set is judged on what it had before the round
(O50, O51). -/

namespace Sys2Proof.Machine

open Sys2Proof.Claims

variable {s t u : State} {d e : Domain} {c : WakeClass} {cause : Cause}

/-! ### The outcome (R128, R130, R131) -/

theorem DomainRec.wakeCost_eq (r : DomainRec) :
    r.wakeCost = if r.state = .winding then 1000 * r.params.awakeCurrent * r.params.minAwake
      else 1000 * r.params.rampCharge + 1000 * r.params.awakeCurrent * r.params.minAwake := by
  unfold DomainRec.wakeCost
  split
  · exact Nat.zero_add _
  · rfl

theorem Account.floorPercent_eq (a : Account) (c : WakeClass) :
    a.floorPercent c = if c.val = 3 then a.upper else if c.val = 2 then a.lower else 0 :=
  if_congr Fin.ext_iff rfl (if_congr Fin.ext_iff rfl rfl)

theorem State.judge_eq (s : State) (d : Domain) (c : WakeClass) : s.judge d c = outcomeOf s d c := by
  refine if_congr Iff.rfl rfl (if_congr Iff.rfl rfl (if_congr ?_ rfl (if_congr Iff.rfl rfl (if_congr Fin.ext_iff rfl
    (if_congr ?_ rfl (if_congr Iff.rfl rfl (if_congr ?_ rfl rfl)))))))
  · cases (s.dom d).state <;> decide
  · cases s.account.tier <;> revert c <;> decide
  · rw [Account.refuses, DomainRec.wakeCost_eq, Account.floorPercent_eq, Bool.or_eq_true, decide_eq_true_iff, decide_eq_true_iff]
    rfl

theorem mergedClass_eq (held : Option WakeClass) (c : WakeClass) : mergedClass held c = lowered held c := by
  cases held <;> rfl

/-! ### Whether the buffer at the write pointer records -/

/-- A change of one buffer that keeps whether it records. -/
theorem State.triggerBuffer_updBuffer (s : State) (j : Nat) {f : Buffer → Buffer} (hf : ∀ b, (f b).recording = b.recording) :
    (s.updBuffer j f).triggerBuffer = s.triggerBuffer := by
  have hrec : ((s.updBuffer j f).buffer s.capture.writePtr).recording = (s.buffer s.capture.writePtr).recording := by
    by_cases hj : s.capture.writePtr = j
    · by_cases hlt : j < s.capture.buffers.length
      · rw [hj, State.buffer_updBuffer_self _ _ hlt, hf]
      · rw [State.updBuffer, List.modify_eq_self (Nat.not_lt.mp hlt)]
    · rw [State.buffer_updBuffer_ne _ _ hj]
  unfold State.triggerBuffer
  rw [show (s.updBuffer j f).capture.writePtr = s.capture.writePtr from rfl, hrec]

theorem State.triggerBuffer_of_capture (h : t.capture = s.capture) : t.triggerBuffer = s.triggerBuffer := by
  rw [State.triggerBuffer, State.triggerBuffer, State.buffer, State.buffer, h]

theorem Buffer.recording_giveUp (b : Buffer) (p : Port) : (b.giveUp p).recording = b.recording := by
  unfold Buffer.giveUp Buffer.settle
  dsimp only
  split
  · next h => rw [Buffer.recording, Buffer.recording, h.1]; rfl
  · rfl

theorem Buffer.recording_take {b : Buffer} (h : b.recording = true) (post : Nat) (d : Domain) (p : Port) (c : Cause) :
    (b.take post d p c).recording = true := by
  unfold Buffer.take
  split
  · rfl
  · exact h

theorem State.triggerBuffer_abortReplay (s : State) (p : Port) : (s.abortReplay p).triggerBuffer = s.triggerBuffer := by
  unfold State.abortReplay
  split
  · next j _ => exact s.triggerBuffer_updBuffer j (fun b => b.recording_giveUp p)
  · rfl

theorem State.triggerBuffer_rederive (s : State) (p : Port) : (s.rederive p).triggerBuffer = s.triggerBuffer := by
  have hlisten : (s.portListen p).triggerBuffer = s.triggerBuffer := by
    unfold State.portListen
    dsimp only
    split
    · rfl
    · split
      · rfl
      · exact State.triggerBuffer_abortReplay _ p
  exact State.ite_keeps State.triggerBuffer rfl (State.ite_keeps State.triggerBuffer rfl hlisten)

theorem State.triggerBuffer_enterState (s : State) (d : Domain) (st : DomainState) :
    (s.enterState d st).triggerBuffer = s.triggerBuffer := State.triggerBuffer_rederive _ _

theorem State.triggerBuffer_trigger (s : State) (d : Domain) (c : Cause) : (s.trigger d c).triggerBuffer = s.triggerBuffer := by
  unfold State.trigger
  cases hb : s.triggerBuffer with
  | none => exact hb
  | some j =>
    unfold State.triggerBuffer at hb
    split at hb
    · next hrec =>
      injection hb with hj
      subst hj
      have hlt := State.recordsInto_range ((Buffer.recording_iff _).mp hrec)
      unfold State.triggerBuffer
      dsimp only
      rw [show (s.updBuffer s.capture.writePtr (fun b => b.take s.capture.post d (s.portOf d) c)).capture.writePtr =
        s.capture.writePtr from rfl, State.buffer_updBuffer_self _ _ hlt, if_pos (Buffer.recording_take hrec _ _ _ _)]
    · cases hb

theorem State.triggerBuffer_admitted (s : State) (d : Domain) (c : WakeClass) : (s.admitted d c).triggerBuffer = s.triggerBuffer := by
  unfold State.admitted
  split
  · exact (State.triggerBuffer_of_capture (State.noticeFrame_noticeAtReturn _ d).capture).trans
      (State.triggerBuffer_enterState _ d _)
  · exact State.triggerBuffer_enterState _ d _

/-! ### What a wake request reads, and what it leaves of it -/

/-- What every wake request reads, beside its own domain: the mode and the park clock, the account but for the tokens, and the
buffer that an admission names. -/
def State.bench (s : State) : Management × Account × Option Nat :=
  (s.management, { s.account with tokens := Tab.replicate 12 { tokens := 0, countdown := none } }, s.triggerBuffer)

/-- What a wake request reads of its own domain. -/
def State.claimant (s : State) (d : Domain) : DomainParams × DomainState × Option WakeClass × Nat :=
  ((s.dom d).params, (s.dom d).state, (s.dom d).wakeClass, (s.tokens d).tokens)

theorem State.bench_eq_iff : t.bench = s.bench ↔
    t.management = s.management ∧ t.account = { s.account with tokens := t.account.tokens } ∧ t.triggerBuffer = s.triggerBuffer := by
  unfold State.bench
  rw [Prod.mk.injEq, Prod.mk.injEq]
  cases t.account
  cases s.account
  simp

theorem State.claimant_eq_iff : t.claimant d = s.claimant d ↔
    (t.dom d).params = (s.dom d).params ∧ (t.dom d).state = (s.dom d).state ∧ (t.dom d).wakeClass = (s.dom d).wakeClass ∧
      (t.tokens d).tokens = (s.tokens d).tokens := by
  simp [State.claimant]

/-- The claims on a wake request depend on what it reads alone. -/
theorem State.outcomeOf_congr (hb : t.bench = s.bench) (hd : t.claimant d = s.claimant d) (c : WakeClass) :
    outcomeOf t d c = outcomeOf s d c := by
  obtain ⟨hmanagement, haccount, -⟩ := State.bench_eq_iff.mp hb
  obtain ⟨hparams, hstate, -, htokens⟩ := State.claimant_eq_iff.mp hd
  have htokens : (t.account.tokens.get d).tokens = (s.account.tokens.get d).tokens := htokens
  unfold outcomeOf
  dsimp only
  rw [hparams, hstate, hmanagement, htokens, haccount]

theorem State.afterRequest_congr (hb : t.bench = s.bench) (hd : t.claimant d = s.claimant d) (c : WakeClass) :
    afterRequest t d c = afterRequest s d c := by
  obtain ⟨-, hstate, hclass, -⟩ := State.claimant_eq_iff.mp hd
  rw [afterRequest, State.outcomeOf_congr hb hd, hstate, hclass, afterRequest]

theorem State.namedBuffer_eq (s : State) (o : WakeOutcome) : s.namedBuffer o = bufferNamed s o := by
  unfold State.namedBuffer bufferNamed State.triggerBuffer
  rw [← ite_and]
  exact if_congr (and_assoc.trans (and_congr Iff.rfl (and_congr Iff.rfl (Buffer.recording_iff _)))) rfl rfl

theorem State.bufferNamed_congr (hb : t.bench = s.bench) (o : WakeOutcome) : bufferNamed t o = bufferNamed s o := by
  obtain ⟨hmanagement, -, hbuffer⟩ := State.bench_eq_iff.mp hb
  rw [← State.namedBuffer_eq, ← State.namedBuffer_eq, State.namedBuffer, State.namedBuffer, State.mode, State.mode, hmanagement,
    hbuffer]

/-! ### One wake request -/

theorem State.settleAdmission_account (s : State) (d : Domain) (c : WakeClass) (cause : Cause) (o : WakeOutcome) :
    (s.settleAdmission d c cause o).account = s.account ∨
      (s.settleAdmission d c cause o).account = (s.consumeToken d).account := by
  unfold State.settleAdmission
  dsimp only
  split <;> split <;> simp

theorem State.consumeToken_tokens_ne (s : State) (h : e ≠ d) : (s.consumeToken d).tokens e = s.tokens e :=
  Tab.get_modify_ne _ _ h

theorem State.triggerBuffer_settleAdmission (s : State) (d : Domain) (c : WakeClass) (cause : Cause) (o : WakeOutcome) :
    (s.settleAdmission d c cause o).triggerBuffer = s.triggerBuffer := by
  have htoken : (if s.consumes c o = true then s.consumeToken d else s).triggerBuffer = s.triggerBuffer :=
    State.ite_keeps State.triggerBuffer (State.triggerBuffer_of_capture (s.consumeToken_capture d)) rfl
  exact State.ite_keeps State.triggerBuffer ((State.triggerBuffer_trigger _ d cause).trans htoken) htoken

theorem State.wakeRequest_bench (s : State) (d : Domain) (c : WakeClass) (cause : Cause) :
    (s.wakeRequest d c cause).bench = s.bench := by
  refine State.bench_eq_iff.mpr ⟨State.management_of_fixed (s.wakeRequest_fixed d c cause), ?_, ?_⟩
  · rw [State.wakeRequest, State.actOn_account, State.writeCause_account]
    rcases s.settleAdmission_account d c cause (s.judge d c) with h | h <;> rw [h]
    rfl
  · rw [State.wakeRequest]
    refine Eq.trans ?_ (s.triggerBuffer_settleAdmission d c cause (s.judge d c))
    unfold State.actOn
    split
    · exact State.triggerBuffer_admitted _ d c
    · exact State.triggerBuffer_of_capture (State.merged_capture _ d c)
    · rfl

theorem State.wakeRequest_causes (s : State) (d : Domain) (c : WakeClass) (cause : Cause) :
    (s.wakeRequest d c cause).causes = recorded s.causes
      [{ second := s.management.clock, domain := d, cause := cause, cls := c
         outcome := outcomeOf s d c, buffer := bufferNamed s (outcomeOf s d c) }] := by
  have hclock : (s.settleAdmission d c cause (outcomeOf s d c)).management = s.management := State.management_of_fixed (by simp)
  rw [State.wakeRequest, State.actOn_causes, State.judge_eq, State.namedBuffer_eq, State.writeCause_eq_noted, noted,
    State.settleAdmission_causes, hclock]

theorem State.admitted_dom_ne (s : State) (h : e ≠ d) (c : WakeClass) : (s.admitted d c).dom e = s.dom e := by
  unfold State.admitted
  split
  · exact s.returnAwake_dom_ne h c
  · rw [State.dom_updSlots, State.enterState_dom, if_neg h, State.dom_updDom_ne _ _ h]

theorem State.merged_dom_ne (s : State) (h : e ≠ d) (c : WakeClass) : (s.merged d c).dom e = s.dom e := by
  unfold State.merged
  dsimp only
  split
  · exact State.dom_updDom_ne _ _ h
  · rw [State.dom_updDom_ne _ _ h, State.dom_updDom_ne _ _ h]
  · exact State.dom_updDom_ne _ _ h

/-- A wake request touches nothing that the requests of other domains read. -/
theorem State.wakeRequest_claimant_ne (s : State) (h : e ≠ d) (c : WakeClass) (cause : Cause) :
    (s.wakeRequest d c cause).claimant e = s.claimant e := by
  have hsettled : ((s.settleAdmission d c cause (s.judge d c)).writeCause d cause c (s.judge d c)
      (s.namedBuffer (s.judge d c))).dom e = s.dom e :=
    State.dom_of_domains (State.settleAdmission_domains _ d c cause (s.judge d c)) e
  have hdom : (s.wakeRequest d c cause).dom e = s.dom e := by
    rw [State.wakeRequest]
    refine Eq.trans ?_ hsettled
    unfold State.actOn
    split
    · exact State.admitted_dom_ne _ h c
    · exact State.merged_dom_ne _ h c
    · rfl
  have htokens : (s.wakeRequest d c cause).tokens e = s.tokens e := by
    rw [State.tokens, State.wakeRequest, State.actOn_account, State.writeCause_account]
    rcases s.settleAdmission_account d c cause (s.judge d c) with ha | ha <;> rw [ha]
    · rfl
    · exact s.consumeToken_tokens_ne h
  rw [State.claimant, hdom, htokens, State.claimant]

/-- What an admitted request leaves its domain (R78, R93). -/
theorem State.admitted_dom_self (s : State) (d : Domain) (c : WakeClass) :
    (((s.admitted d c).dom d).state, ((s.admitted d c).dom d).wakeClass) =
      (if (s.dom d).state = .winding then .awake else .queued, some c) := by
  unfold State.admitted
  split
  · next hw =>
    rw [if_pos hw, State.returnAwake, (State.noticeFrame_noticeAtReturn _ d).dom d, State.enterAwake, State.enterState_dom,
      if_pos rfl, State.dom_updDom_self, State.dom_updDom_self]
  · next hw =>
    rw [if_neg hw, State.dom_updSlots, State.enterState_dom, if_pos rfl, State.dom_updDom_self]

/-- What a merged request leaves its domain (R78, R98). -/
theorem State.merged_dom_self (s : State) (d : Domain) (c : WakeClass) :
    (((s.merged d c).dom d).state, ((s.merged d c).dom d).wakeClass) =
      ((s.dom d).state, some (lowered (s.dom d).wakeClass c)) := by
  rw [← mergedClass_eq]
  unfold State.merged
  dsimp only
  split
  · rw [State.dom_updSlots, State.dom_updDom_self]
  · rw [State.dom_updDom_self, State.dom_updDom_self]
  · rw [State.dom_updDom_self]

/-- The state and the wake class that a wake request leaves its domain (R78, R93, R98). -/
theorem State.wakeRequest_dom_self (s : State) (d : Domain) (c : WakeClass) (cause : Cause) :
    (((s.wakeRequest d c cause).dom d).state, ((s.wakeRequest d c cause).dom d).wakeClass) = afterRequest s d c := by
  have hsettled : ((s.settleAdmission d c cause (s.judge d c)).writeCause d cause c (s.judge d c)
      (s.namedBuffer (s.judge d c))).dom d = s.dom d :=
    State.dom_of_domains (State.settleAdmission_domains _ d c cause (s.judge d c)) d
  rw [State.wakeRequest, afterRequest, ← State.judge_eq]
  generalize (s.settleAdmission d c cause (s.judge d c)).writeCause d cause c (s.judge d c) (s.namedBuffer (s.judge d c)) = t
    at hsettled ⊢
  rw [← hsettled]
  cases hj : s.judge d c with
  | admitted => exact t.admitted_dom_self d c
  | merged => exact t.merged_dom_self d c
  | _ => rfl

/-! ### A round of wake requests -/

/-- One wake request for each domain that a test picks, of a class and with a cause by the domain. -/
def State.request (q : Domain → Bool) (cls : Domain → WakeClass) (cause : Domain → Cause) (s : State) (d : Domain) : State :=
  if q d = true then s.wakeRequest d (cls d) (cause d) else s

section
variable (q : Domain → Bool) (cls : Domain → WakeClass) (cause : Domain → Cause)

theorem State.request_bench (s : State) (d : Domain) : (s.request q cls cause d).bench = s.bench :=
  State.ite_keeps State.bench (s.wakeRequest_bench d _ _) rfl

theorem State.request_claimant_ne (s : State) (h : d ≠ e) : (s.request q cls cause e).claimant d = s.claimant d :=
  State.ite_keeps (·.claimant d) (s.wakeRequest_claimant_ne h _ _) rfl

theorem recorded_append (k : CauseQueue) (a b : List CauseRecord) : recorded k (a ++ b) = recorded (recorded k a) b :=
  List.foldl_append

theorem State.requestRecords_congr {ds : List Domain} (hb : t.bench = s.bench) (hd : ∀ d ∈ ds, t.claimant d = s.claimant d) :
    requestRecords t ds cls cause = requestRecords s ds cls cause := by
  have hclock : t.management = s.management := (State.bench_eq_iff.mp hb).1
  refine List.map_congr_left (fun d hmem => ?_)
  rw [hclock, State.outcomeOf_congr hb (hd d hmem), State.bufferNamed_congr hb]

/-- The cause records of a round over some domains. -/
theorem State.foldl_request_causes (l : List Domain) (hl : l.Nodup) (s : State) :
    (l.foldl (State.request q cls cause) s).causes = recorded s.causes (requestRecords s (l.filter q) cls cause) := by
  induction l generalizing s with
  | nil => rfl
  | cons d l ih =>
    obtain ⟨hd, hl⟩ := List.nodup_cons.mp hl
    have hrest : requestRecords (s.request q cls cause d) (l.filter q) cls cause = requestRecords s (l.filter q) cls cause :=
      State.requestRecords_congr cls cause (s.request_bench q cls cause d) (fun e he =>
        s.request_claimant_ne q cls cause (fun hed => hd (hed ▸ (List.mem_filter.mp he).1)))
    rw [List.foldl_cons, ih hl, hrest, State.request]
    by_cases hq : q d = true
    · rw [if_pos hq, List.filter_cons_of_pos hq, State.wakeRequest_causes, ← recorded_append]
      rfl
    · rw [if_neg hq, List.filter_cons_of_neg hq]

theorem State.round_bench (s : State) : (s.eachDomain (State.request q cls cause)).bench = s.bench :=
  State.eachDomain_keeps State.bench _ (State.request_bench q cls cause) s

theorem State.request_fixed (s : State) (d : Domain) : (s.request q cls cause d).fixed = s.fixed :=
  State.ite_keeps State.fixed (s.wakeRequest_fixed d _ _) rfl

theorem State.round_fixed (s : State) : (s.eachDomain (State.request q cls cause)).fixed = s.fixed :=
  State.eachDomain_keeps State.fixed _ (State.request_fixed q cls cause) s

theorem State.round_causes (s : State) : (s.eachDomain (State.request q cls cause)).causes =
    recorded s.causes (requestRecords s (domainsWhere q) cls cause) :=
  State.foldl_request_causes q cls cause _ (List.nodup_finRange 12) s

/-- The state and the wake class of every domain after a round. -/
theorem State.round_dom (s : State) (d : Domain) :
    (((s.eachDomain (State.request q cls cause)).dom d).state, ((s.eachDomain (State.request q cls cause)).dom d).wakeClass) =
      if q d = true then afterRequest s d (cls d) else ((s.dom d).state, (s.dom d).wakeClass) := by
  obtain ⟨u, hbefore, hafter⟩ := State.eachDomain_at (fun u => (u.bench, u.claimant d)) (f := State.request q cls cause) (d := d)
    (fun u e he => Prod.ext (u.request_bench q cls cause e) (u.request_claimant_ne q cls cause he.symm)) s
  obtain ⟨hbench, hclaimant⟩ := Prod.mk.inj hbefore
  obtain ⟨-, hstate, hclass, -⟩ := State.claimant_eq_iff.mp (Prod.mk.inj hafter).2
  obtain ⟨-, hstate', hclass', -⟩ := State.claimant_eq_iff.mp hclaimant
  rw [hstate, hclass, ← State.afterRequest_congr hbench hclaimant, ← hstate', ← hclass', State.request]
  split
  · exact u.wakeRequest_dom_self d _ _
  · rfl

end

end Sys2Proof.Machine

end

section
/-! The wakes of a completed evaluation: what its record leaves to them, the direct wakes as a round of requests, and the
contribution of the one grouped row (O51). -/

namespace Sys2Proof.Machine

open Sys2Proof.Claims

variable {s t u : State} {r : FrameRecord} {d : Domain} {i : RowIx} {g : GroupIx}

/-! ### The state that the wakes begin in (R24, steps 1 to 4) -/

theorem Buffer.recording_write (b : Buffer) (size : Nat) (f : StoredFrame) : (b.write size f).recording = b.recording := by
  rw [Buffer.recording, (b.write_post size f).1, Buffer.recording]

theorem State.triggerBuffer_recordFrame (s : State) (f : StoredFrame) : (s.recordFrame f).triggerBuffer = s.triggerBuffer :=
  State.ite_keeps State.triggerBuffer (s.triggerBuffer_updBuffer _ (fun b => b.recording_write _ f)) rfl

/-- From `s` to `t` nothing has changed that a wake or a contribution reads. -/
structure State.Untouched (s t : State) : Prop where
  bench         : t.bench = s.bench
  claimant      : ∀ d, t.claimant d = s.claimant d
  causes        : t.causes = s.causes
  account       : t.account = s.account
  contributions : t.contributions = s.contributions
  active        : t.engine.active = s.engine.active
  timeBase      : t.timeBase = s.timeBase

theorem State.untouched_handled (hnone : ∀ d, ¬recognisedBy s r d) : s.Untouched (s.handled r) := by
  have hunidled : ((s.tallied r).recogniseRecord r).unidled = (s.tallied r).unidled :=
    State.unidled_recogniseRecord (fun d hd => hnone d (by
      rw [recognisedBy, State.portOf, State.dom_of_domains (s.tallied_aside r).1] at hd
      exact hd))
  have hfixed := (s.handled_fixed r).trans (((s.tallied r).recogniseRecord_fixed r).trans (s.tallied_aside r).2.2)
  obtain ⟨hdomains, -, hcauses, haccount⟩ := ((s.tallied r).recogniseRecord r).forwardAndRecord_aside (s.matching r) r
  rw [← State.handled] at hdomains hcauses haccount
  obtain ⟨-, hcauses₀, haccount₀⟩ := s.tallied_rest r
  have haccount : (s.handled r).account = s.account := by
    have : ((s.tallied r).recogniseRecord r).account = (s.tallied r).account := by injection hunidled
    rw [haccount, this, haccount₀]
  have hdom : ∀ d, ((s.handled r).dom d).params = (s.dom d).params ∧ ((s.handled r).dom d).state = (s.dom d).state ∧
      ((s.handled r).dom d).wakeClass = (s.dom d).wakeClass := fun d => by
    rw [State.dom_of_domains hdomains, ← State.dom_of_domains (s.tallied_aside r).1 d]
    have := State.unidled_dom hunidled d
    injection this with hparams hstate _ hclass
    exact ⟨hparams, hstate, hclass⟩
  have hbuffer : (s.handled r).triggerBuffer = s.triggerBuffer := by
    have hcapture := State.handled_capture hnone
    split at hcapture
    · exact (State.triggerBuffer_of_capture hcapture).trans (s.triggerBuffer_recordFrame _)
    · exact State.triggerBuffer_of_capture hcapture
  refine ⟨State.bench_eq_iff.mpr ⟨congrArg Fixed.management hfixed, by rw [haccount], hbuffer⟩, fun d => ?_, ?_, haccount,
    congrArg Fixed.contributions hfixed, congrArg (fun x : Fixed => x.engine.active) hfixed, congrArg Fixed.timeBase hfixed⟩
  · obtain ⟨hparams, hstate, hclass⟩ := hdom d
    exact State.claimant_eq_iff.mpr ⟨hparams, hstate, hclass, by rw [State.tokens, haccount, State.tokens]⟩
  · have : ((s.tallied r).recogniseRecord r).causes = (s.tallied r).causes := by injection hunidled
    rw [hcauses, this, hcauses₀]

/-! ### The direct wakes (R26, R31) -/

theorem hasDomain_wakeUnion (f : Row → Bool) (rows : List Row) (d : Domain) :
    hasDomain (wakeUnion rows f) d = true ↔ ∃ row ∈ rows, f row = true ∧ hasDomain row.wake d = true := by
  have hfold : ∀ (l : List Row) (a : DomainSet), hasDomain (l.foldl (fun acc row => acc ||| row.wake) a) d = true ↔
      hasDomain a d = true ∨ ∃ row ∈ l, hasDomain row.wake d = true := fun l => by
    induction l with
    | nil => simp
    | cons row l ih => intro a; simp [ih, hasDomain_or, or_assoc]
  rw [wakeUnion, hfold]
  simp [hasDomain, and_assoc]

theorem activeRow_eq (s : State) (i : RowIx) : activeRow s i = s.engine.active.rows.get i := rfl

/-- The matching rows that a direct wake of a domain may name. -/
theorem plainRows_eq (s : State) (r : FrameRecord) (d : Domain) :
    (s.matching r).filter (fun i => (activeRow s i).plain && hasDomain (activeRow s i).wake d) =
      (List.finRange 128).filter (fun i => wakesDirectly s r d i) := by
  rw [State.matching, List.filter_filter]
  refine List.filter_congr (fun i _ => Bool.eq_iff_iff.mpr ?_)
  have hmatch : (s.engine.active.rows.get i).matches s.mode r = true ↔ rowMatches s r i := by
    rw [← mem_matching, State.matching, List.mem_filter]
    simp
  rw [Bool.and_eq_true, hmatch]
  simp only [wakesDirectly, Row.plain, Bool.and_eq_true, Bool.not_eq_true', Option.isNone_iff_eq_none, decide_eq_true_iff]
  tauto

theorem exists_matching {f : Row → Bool} :
    (∃ row ∈ (s.matching r).map (activeRow s), f row = true ∧ hasDomain row.wake d = true) ↔
      ∃ i, rowMatches s r i ∧ f (activeRow s i) = true ∧ hasDomain (activeRow s i).wake d = true := by
  simp only [List.mem_map, mem_matching]
  exact ⟨fun ⟨_, ⟨i, hi, rfl⟩, h⟩ => ⟨i, hi, h⟩, fun ⟨i, hi, h⟩ => ⟨_, ⟨i, hi, rfl⟩, h⟩⟩

/-- A domain is woken directly where a plain row wakes it and no veto row names it. -/
theorem hasDomain_directWakes (s : State) (r : FrameRecord) (d : Domain) :
    hasDomain (directWakes ((s.matching r).map (activeRow s))) d = true ↔ wakingRows s r d ≠ [] := by
  have hplain : hasDomain (wakeUnion ((s.matching r).map (activeRow s)) Row.plain) d = true ↔ ∃ i, wakesDirectly s r d i := by
    rw [hasDomain_wakeUnion, exists_matching]
    simp only [Row.plain, Bool.and_eq_true, Bool.not_eq_true', Option.isNone_iff_eq_none, and_assoc]
  have hveto : hasDomain (wakeUnion ((s.matching r).map (activeRow s)) Row.vetoing) d = true ↔ ∃ i, vetoes s r d i := by
    rw [hasDomain_wakeUnion, exists_matching]
    simp only [Row.vetoing, Bool.and_eq_true, Option.isNone_iff_eq_none, and_assoc]
  have hdiff : ∀ a b : DomainSet, hasDomain (a &&& ~~~b) d = (hasDomain a d && !hasDomain b d) := fun a b => by
    simp [hasDomain]
  rw [directWakes, hdiff, Bool.and_eq_true, Bool.not_eq_true', ← Bool.not_eq_true, hplain, hveto, wakingRows]
  by_cases hv : ∃ i, vetoes s r d i
  · rw [if_pos hv]
    exact ⟨fun h => absurd hv h.2, fun h => absurd rfl h⟩
  · rw [if_neg hv, Ne, List.filter_eq_nil_iff]
    simp only [hv, not_false_eq_true, and_true, List.mem_finRange, forall_const, decide_eq_true_iff, not_forall, not_not]

theorem lowestClass_eq (s : State) (rows : List RowIx) : lowestClass (rows.map (fun i => (activeRow s i).cls)) = classOf s rows :=
  List.foldl_map

/-- The domains that get a direct wake request, in O50's words. -/
def directlyWoken (s : State) (r : FrameRecord) (d : Domain) : Bool := wakingRows s r d != []

theorem directlyWoken_iff : directlyWoken s r d = true ↔ wakingRows s r d ≠ [] := bne_iff_ne

/-- The class of a direct wake request. -/
def directClass (s : State) (r : FrameRecord) (d : Domain) : WakeClass := classOf s (wakingRows s r d)

/-- The cause of a direct wake request. -/
def directCause (s : State) (r : FrameRecord) (d : Domain) : Cause := .rule ((wakingRows s r d).headD 0)

/-- A direct wake is one request, of the lowest class and with the lowest-numbered row as its cause. -/
theorem State.directWake_eq (h : u.engine.active = s.engine.active) (r : FrameRecord) (d : Domain) :
    u.directWake (s.matching r) d =
      u.request (directlyWoken s r) (directClass s r) (directCause s r) d := by
  have hrows : wakingRows s r d ≠ [] → wakingRows s r d = (List.finRange 128).filter (fun i => wakesDirectly s r d i) := by
    unfold wakingRows
    split
    · exact fun hne => absurd rfl hne
    · exact fun _ => rfl
  unfold State.directWake State.request
  dsimp only
  simp only [h, ← activeRow_eq s]
  by_cases hw : wakingRows s r d = []
  · rw [if_neg (fun hd => (hasDomain_directWakes s r d).mp hd hw), if_neg (fun hd => directlyWoken_iff.mp hd hw)]
  · have hnaming := plainRows_eq s r d
    rw [← hrows hw] at hnaming
    obtain ⟨i, rest, hrest⟩ := List.exists_cons_of_ne_nil hw
    rw [if_pos ((hasDomain_directWakes s r d).mpr hw), if_pos (directlyWoken_iff.mpr hw), hnaming, lowestClass_eq, directClass,
      directCause, hrest]
    rfl

/-- A pass over a list whose steps agree with another's while a view stands that the other keeps. -/
theorem foldl_congr_view {α β : Type} (view : State → β) {f k : State → α → State}
    (hf : ∀ u, view u = view s → ∀ a, f u a = k u a) (hk : ∀ u a, view (k u a) = view u) (l : List α) (hu : view u = view s) :
    l.foldl f u = l.foldl k u := by
  induction l generalizing u with
  | nil => rfl
  | cons a l ih => rw [List.foldl_cons, List.foldl_cons, hf u hu a, ih ((hk u a).trans hu)]

/-- The direct wakes of a completed evaluation are a round of requests. -/
theorem State.directRound (h : u.engine.active = s.engine.active) (r : FrameRecord) :
    u.eachDomain (fun t d => t.directWake (s.matching r) d) =
      u.eachDomain (State.request (directlyWoken s r) (directClass s r) (directCause s r)) := by
  refine foldl_congr_view (s := s) (fun t => t.engine.active) (fun t ht d => ?_) (fun t d => ?_) (List.finRange 12) h
  · exact State.directWake_eq ht r d
  · exact congrArg Engine.active (State.engine_of_fixed (t.request_fixed _ _ _ d))

/-- A round judged in a state that reads as `s` does, in the words of `s`. -/
theorem State.round_spec (q : Domain → Bool) (cls : Domain → WakeClass) (cause : Domain → Cause) (hb : u.bench = s.bench)
    (hd : ∀ d, u.claimant d = s.claimant d) (hc : u.causes = s.causes) :
    (u.eachDomain (State.request q cls cause)).causes = recorded s.causes (requestRecords s (domainsWhere q) cls cause) ∧
      ∀ d, (((u.eachDomain (State.request q cls cause)).dom d).state, ((u.eachDomain (State.request q cls cause)).dom d).wakeClass) =
        if q d = true then afterRequest s d (cls d) else ((s.dom d).state, (s.dom d).wakeClass) := by
  refine ⟨?_, fun d => ?_⟩
  · rw [State.round_causes, State.requestRecords_congr cls cause hb (fun d _ => hd d), hc]
  · obtain ⟨-, hstate, hclass, -⟩ := State.claimant_eq_iff.mp (hd d)
    rw [State.round_dom, State.afterRequest_congr hb (hd d), hstate, hclass]

/-- A round that requests nothing. -/
theorem State.round_none {q : Domain → Bool} (h : ∀ d, q d ≠ true) (cls : Domain → WakeClass) (cause : Domain → Cause) (s : State) :
    s.eachDomain (State.request q cls cause) = s :=
  State.eachDomain_keeps id (State.request q cls cause) (fun _ d => if_neg (h d)) s

/-! ### The contributions (R32, R47 to R51) -/

theorem State.contributeRow_plain (h : u.engine.active = s.engine.active) (hi : (activeRow s i).group = none) :
    u.contributeRow i = u := by
  rw [activeRow, ← h] at hi
  rw [State.contributeRow, hi]

theorem State.foldl_contributeRow_plain (h : u.engine.active = s.engine.active) (l : List RowIx)
    (hl : ∀ i ∈ l, (activeRow s i).group = none) : l.foldl State.contributeRow u = u := by
  induction l with
  | nil => rfl
  | cons i l ih =>
    rw [List.foldl_cons, State.contributeRow_plain h (hl i List.mem_cons_self), ih (fun j hj => hl j (List.mem_cons_of_mem _ hj))]

/-- Where one grouped row matches, its contribution is the only one. -/
theorem State.foldl_contributeRow_one (h : u.engine.active = s.engine.active) (hi : rowMatches s r i)
    (hone : ∀ j : RowIx, rowMatches s r j → (activeRow s j).group ≠ none → j = i) :
    (s.matching r).foldl State.contributeRow u = u.contributeRow i := by
  obtain ⟨before, after, hsplit⟩ := List.append_of_mem (mem_matching.mpr hi)
  have hnodup := matching_nodup s r
  rw [hsplit, List.nodup_middle, List.nodup_cons, List.mem_append, not_or] at hnodup
  have plain : ∀ j ∈ s.matching r, j ≠ i → (activeRow s j).group = none := fun j hj hne =>
    Classical.not_not.mp (fun hgroup => hne (hone j (mem_matching.mp hj) hgroup))
  rw [hsplit] at plain
  have hafter : (u.contributeRow i).engine.active = s.engine.active :=
    (congrArg (fun c : Calm => c.core.engine.active) (u.calm_contributeRow i)).trans h
  rw [hsplit, List.foldl_append, List.foldl_cons,
    State.foldl_contributeRow_plain h before (fun j hj => plain j (by simp [hj]) (fun he => hnodup.1.1 (he ▸ hj))),
    State.foldl_contributeRow_plain hafter after (fun j hj => plain j (by simp [hj]) (fun he => hnodup.1.2 (he ▸ hj)))]

theorem State.contributeRow_grouped (h : u.engine.active = s.engine.active) (hi : (activeRow s i).group = some g) :
    u.contributeRow i = u.takeContribution g i := by
  rw [activeRow, ← h] at hi
  rw [State.contributeRow, hi]

/-- A contribution: discarded where its group is disabled, and otherwise taken, with a round of requests where the group fires. -/
theorem State.takeContribution_eq (h : s.Untouched u) (g : GroupIx) (i : RowIx) :
    u.takeContribution g i =
      if (s.engine.active.groups.get g).enabled = true then
        if (s.engine.active.groups.get g).threshold ≤ (afterContribution s g i).length then
          (u.setContributions g []).eachDomain (State.request (hasDomain (s.engine.active.groups.get g).wake)
            (fun _ => (s.engine.active.groups.get g).cls) (fun _ => .group g))
        else u.setContributions g (afterContribution s g i)
      else u := by
  have hlist : contribute (u.contributions.get g) i u.timeBase = afterContribution s g i := by
    rw [h.contributions, h.timeBase]
    rfl
  unfold State.takeContribution State.fireGroup
  dsimp only
  rw [hlist, h.active]
  rfl

end Sys2Proof.Machine

open Sys2Proof Sys2Proof.Machine Sys2Proof.Claims

/-- Settles O51, by the course of the contribution. -/
theorem contributionsFireTheirGroupAndExpire : Obligations.ContributionsFireTheirGroupAndExpire := by
  refine ⟨fun s r i g hflight hnone hi hg hone => ?_, fun s g taken => ?_⟩
  · refine ⟨s.idleEngine.complete r, by simp only [exec, execEvaluationCompletion, hflight], ?_⟩
    have untouched := State.untouched_handled (fun d => (hnone d).1)
    have hquiet : ∀ d, directlyWoken s r d ≠ true := fun d h => directlyWoken_iff.mp h (hnone d).2
    have hcomplete : s.idleEngine.complete r = ((s.handled r).takeContribution g i).closeIfComplete := by
      rw [State.complete_eq, State.wakesOf, State.directRound untouched.active, State.round_none hquiet,
        State.foldl_contributeRow_one untouched.active hi hone, State.contributeRow_grouped untouched.active hg]
    have hdom := State.dom_of_domains (((s.handled r).takeContribution g i).closeIfComplete_domains)
    have hstay : ∀ d, (((s.handled r).dom d).state = (s.dom d).state ∧ ((s.handled r).dom d).wakeClass = (s.dom d).wakeClass) :=
      fun d => by
        obtain ⟨-, hstate, hclass, -⟩ := State.claimant_eq_iff.mp (untouched.claimant d)
        exact ⟨hstate, hclass⟩
    rw [hcomplete]
    dsimp only
    rw [State.contributions_of_fixed (State.closeIfComplete_fixed _), State.closeIfComplete_causes]
    simp only [hdom]
    rw [State.takeContribution_eq untouched]
    by_cases henabled : (s.engine.active.groups.get g).enabled = true
    · have hon : ¬(s.engine.active.groups.get g).enabled = false := by rw [henabled]; decide
      rw [if_pos henabled, if_neg hon]
      by_cases hthreshold : (s.engine.active.groups.get g).threshold ≤ (afterContribution s g i).length
      · obtain ⟨hcauses, hdoms⟩ := State.round_spec (u := (s.handled r).setContributions g [])
          (hasDomain (s.engine.active.groups.get g).wake) (fun _ => (s.engine.active.groups.get g).cls) (fun _ => .group g)
          untouched.bench untouched.claimant untouched.causes
        rw [if_pos hthreshold, if_pos hthreshold]
        refine ⟨?_, fun h => absurd ⟨henabled, hthreshold⟩ h, fun _ => ⟨hcauses, hdoms⟩⟩
        rw [State.contributions_of_fixed (State.round_fixed _ _ _ _), ← untouched.contributions]
        rfl
      · rw [if_neg hthreshold, if_neg hthreshold, ← untouched.contributions]
        exact ⟨rfl, fun _ => ⟨untouched.causes, hstay⟩, fun h => absurd h.2 hthreshold⟩
    · rw [if_neg henabled, if_pos (Bool.eq_false_iff.mpr henabled)]
      exact ⟨untouched.contributions, fun _ => ⟨untouched.causes, hstay⟩, fun h => absurd h.1 henabled⟩
  · by_cases hreached : taken + (s.engine.active.groups.get g).window ≤ s.timeBase
    · exact ⟨_, if_pos (decide_eq_true hreached), by beta_reduce; rw [if_pos hreached]; rfl⟩
    · exact ⟨_, if_neg (fun h => hreached (of_decide_eq_true h)), by beta_reduce; rw [if_neg hreached]⟩

end

section
/-! What a round of wake requests does to the buffer at the write pointer in PARK, and O50. -/

namespace Sys2Proof.Machine

open Sys2Proof.Claims

variable {s t u : State} {r : FrameRecord} {d e : Domain} {c : WakeClass} {cause : Cause} {b : Buffer} {post : Nat}
  {place : Domain → Port} {causeOf : Domain → Cause} {ds : List Domain}

/-! ### A buffer that takes triggers (R147) -/

theorem domainSet_ext {a b : DomainSet} (h : ∀ d, hasDomain a d = hasDomain b d) : a = b :=
  BitVec.eq_of_getLsbD_eq (fun i hi => h ⟨i, hi⟩)

theorem setOf_cons_add (d : Domain) (ds : List Domain) : setOf (d :: ds) = onlyDomain d + setOf ds := by
  rw [Claims.setOf, List.map_cons, List.sum_cons, BitVec.ofNat_add]
  rfl

theorem setOf_cons_or (hds : ∀ e, hasDomain (setOf ds) e = true ↔ e ∈ ds) (hd : d ∉ ds) :
    setOf (d :: ds) = onlyDomain d ||| setOf ds := by
  have hdisjoint : onlyDomain d &&& setOf ds = 0 := domainSet_ext (fun e => by
    have hand : hasDomain (onlyDomain d &&& setOf ds) e = (hasDomain (onlyDomain d) e && hasDomain (setOf ds) e) :=
      BitVec.getLsbD_and
    rw [hand, hasDomain_onlyDomain, Bool.eq_iff_iff, Bool.and_eq_true, beq_iff_eq, hds]
    exact ⟨fun h => absurd (h.1 ▸ h.2) hd, fun h => by simp [hasDomain] at h⟩)
  rw [setOf_cons_add, BitVec.add_eq_or_of_and_eq_zero _ _ hdisjoint]

/-- The set of a list of distinct domains holds the domains of the list. -/
theorem hasDomain_setOf (hnodup : ds.Nodup) (e : Domain) : hasDomain (setOf ds) e = true ↔ e ∈ ds := by
  induction ds generalizing e with
  | nil => simp [Claims.setOf, hasDomain]
  | cons d ds ih =>
    obtain ⟨hd, hds⟩ := List.nodup_cons.mp hnodup
    rw [setOf_cons_or (ih hds) hd, hasDomain_or, hasDomain_onlyDomain, Bool.or_eq_true, beq_iff_eq, ih hds, List.mem_cons]

theorem setOf_cons (hnodup : (d :: ds).Nodup) : setOf (d :: ds) = onlyDomain d ||| setOf ds := by
  obtain ⟨hd, hds⟩ := List.nodup_cons.mp hnodup
  exact setOf_cons_or (hasDomain_setOf hds) hd

/-- A buffer after one trigger for each domain of a list. -/
def Buffer.takes (b : Buffer) (post : Nat) (place : Domain → Port) (causeOf : Domain → Cause) (ds : List Domain) : Buffer :=
  ds.foldl (fun b d => b.take post d (place d) (causeOf d)) b

/-- A POST buffer merges the triggers. -/
theorem Buffer.takes_post (hb : b.state = .post) (hnodup : ds.Nodup) :
    (b.takes post place causeOf ds).state = .post ∧ (b.takes post place causeOf ds).trigger = b.trigger ∧
      (b.takes post place causeOf ds).postLeft = b.postLeft ∧ (b.takes post place causeOf ds).woken = b.woken ||| setOf ds ∧
      ∀ p, hasPort (b.takes post place causeOf ds).pending p = (hasPort b.pending p || ds.any (fun e => place e == p)) := by
  induction ds generalizing b with
  | nil => exact ⟨hb, rfl, rfl, BitVec.or_zero.symm, fun p => (Bool.or_false _).symm⟩
  | cons d ds ih =>
    have htake : b.take post d (place d) (causeOf d) =
        { b with woken := b.woken ||| onlyDomain d, pending := b.pending ||| onlyPort (place d) } :=
      if_neg (by rw [hb]; decide)
    obtain ⟨hstate, htrigger, hleft, hwoken, hpending⟩ := ih (b := b.take post d (place d) (causeOf d))
      (by rw [htake]; exact hb) (List.nodup_cons.mp hnodup).2
    rw [htake] at htrigger hleft hwoken hpending
    rw [Buffer.takes, List.foldl_cons, ← Buffer.takes]
    rw [htake] at hstate ⊢
    refine ⟨hstate, htrigger, hleft, ?_, fun p => ?_⟩
    · rw [hwoken, (setOf_cons hnodup), BitVec.or_assoc]
    · rw [hpending, List.any_cons, ← Bool.or_assoc, hasPort_or, hasPort_onlyPort, Bool.beq_comm]

/-- An OPEN buffer takes the first trigger, and merges the others. -/
theorem Buffer.takes_opened (hb : b.state = .opened) (hnodup : (d :: ds).Nodup) :
    (b.takes post place causeOf (d :: ds)).state = .post ∧
      (b.takes post place causeOf (d :: ds)).trigger = triggerOf (causeOf d) ∧
      (b.takes post place causeOf (d :: ds)).postLeft = post ∧
      (b.takes post place causeOf (d :: ds)).woken = setOf (d :: ds) ∧
      (b.takes post place causeOf (d :: ds)).pending = portsWhere (fun p => (d :: ds).any (fun e => place e == p)) := by
  have htake : b.take post d (place d) (causeOf d) =
      { b with
        state := .post, postLeft := post, trigger := triggerOf (causeOf d), woken := onlyDomain d,
        pending := onlyPort (place d) } := if_pos hb
  obtain ⟨hstate, htrigger, hleft, hwoken, hpending⟩ := Buffer.takes_post (post := post) (place := place) (causeOf := causeOf)
    (b := b.take post d (place d) (causeOf d)) (by rw [htake]) (List.nodup_cons.mp hnodup).2
  rw [Buffer.takes, List.foldl_cons, ← Buffer.takes]
  rw [htake] at hstate htrigger hleft hwoken hpending ⊢
  refine ⟨hstate, htrigger, hleft, hwoken.trans (setOf_cons hnodup).symm, portSet_ext (fun p => ?_)⟩
  rw [hpending, hasPort_portsWhere, List.any_cons, hasPort_onlyPort, Bool.beq_comm]

/-! ### What one wake request brings to the captures -/

theorem State.PortsFollow.aside (hs : s.PortsFollow) (hports : t.ports = s.ports) (hdomains : t.domains = s.domains)
    (hmode : t.mode = s.mode) : t.PortsFollow := fun p => by
  have hactive : (t.port p).active = (s.port p).active := by rw [State.port, hports]; rfl
  rw [hactive, hs p]
  exact (State.derivedActive_same (fun e => by rw [State.portOf, State.dom_of_domains hdomains]; rfl)
    (fun e => by rw [State.dom_of_domains hdomains]) hmode p).symm

/-- A transition that leaves its port's state as it was touches no capture. -/
theorem State.enterState_capture (hs : s.PortsFollow) {st : DomainState} (h : st.activates = (s.dom d).state.activates) :
    (s.enterState d st).capture = s.capture := by
  have hderived := State.derivedActive_same (s := s) (t := onDomain s d { s.dom d with state := st, enable := st.powered })
    (fun e => by
      rw [State.portOf, onDomain_dom]
      split
      · next he => subst he; rfl
      · rfl)
    (fun e => by
      rw [onDomain_dom]
      split
      · next he => subst he; exact h
      · rfl) rfl (s.portOf d)
  have hstill : s.enterState d st = onDomain s d { s.dom d with state := st, enable := st.powered } := by
    rw [State.enterState_eq]
    exact if_pos (hderived.trans (hs (s.portOf d)).symm)
  rw [hstill]
  rfl

theorem State.admitted_capture (hs : s.PortsFollow) (h : (s.dom d).state = .asleep ∨ (s.dom d).state = .winding) (c : WakeClass) :
    (s.admitted d c).capture = s.capture := by
  have hrecord : ∀ {v : State} {f : DomainRec → DomainRec}, v.PortsFollow → (f (v.dom d)).params = (v.dom d).params →
      (f (v.dom d)).state = (v.dom d).state → (v.updDom d f).PortsFollow := fun hv hp hst => (State.Wakes.updDom hv d hp hst).follow
  unfold State.admitted
  split
  · next hw =>
    have hclass := hrecord (f := fun r => { r with windTimer := none, sleepReason := none, wakeClass := some c }) hs rfl rfl
    have htimers := hrecord (f := fun r =>
      { r with
        minAwakeTimer := if r.params.minAwake = 0 then none else some r.params.minAwake
        idleTimer := .running r.params.idleTimeout }) hclass rfl rfl
    rw [State.returnAwake, (State.noticeFrame_noticeAtReturn _ d).capture, State.enterAwake]
    refine (State.enterState_capture htimers ?_).trans rfl
    rw [State.dom_updDom_self, State.dom_updDom_self]
    exact (congrArg DomainState.activates hw).symm
  · next hw =>
    have hclass := hrecord (f := fun r => { r with wakeClass := some c, retriesUsed := 0 }) hs rfl rfl
    refine (State.enterState_capture hclass ?_).trans rfl
    rw [State.dom_updDom_self]
    exact (congrArg DomainState.activates (h.resolve_right hw)).symm

/-- What admission has done before the domain acts is all that the captures see. -/
theorem State.wakeRequest_capture (hs : s.PortsFollow) (d : Domain) (c : WakeClass) (cause : Cause) :
    (s.wakeRequest d c cause).capture = (s.settleAdmission d c cause (s.judge d c)).capture := by
  have hfollow : ((s.settleAdmission d c cause (s.judge d c)).writeCause d cause c (s.judge d c)
      (s.namedBuffer (s.judge d c))).PortsFollow :=
    hs.aside (State.settleAdmission_ports _ _ _ _ _) (State.settleAdmission_domains _ _ _ _ _)
      (State.mode_of_fixed (State.settleAdmission_fixed _ _ _ _ _))
  have hstate : ((s.settleAdmission d c cause (s.judge d c)).writeCause d cause c (s.judge d c)
      (s.namedBuffer (s.judge d c))).dom d = s.dom d :=
    State.dom_of_domains (State.settleAdmission_domains _ _ _ _ _) d
  rw [State.wakeRequest]
  unfold State.actOn
  split
  · next ho =>
    have := State.judge_admitted ho
    rw [← hstate] at this
    exact State.admitted_capture hfollow this c
  · exact State.merged_capture _ d c
  · rfl

/-- In PARK an admission is one trigger for the buffer that records, and any other outcome none (R132, R147). -/
theorem State.wakeRequest_buffer (hs : s.PortsFollow) (hpark : s.mode = .park)
    (hinto : recordsInto (s.buffer s.capture.writePtr)) (d : Domain) (c : WakeClass) (cause : Cause) :
    (s.wakeRequest d c cause).buffer s.capture.writePtr =
      if outcomeOf s d c = .admitted then (s.buffer s.capture.writePtr).take s.capture.post d (s.portOf d) cause
      else s.buffer s.capture.writePtr := by
  have hbuffer : ∀ {v : State} (j : Nat), v.capture = s.capture → v.buffer j = s.buffer j := fun j hv => by
    rw [State.buffer, hv, State.buffer]
  rw [State.buffer, State.wakeRequest_capture hs, ← State.buffer, State.judge_eq]
  unfold State.settleAdmission
  dsimp only
  have hcapture : (if s.consumes c (outcomeOf s d c) = true then s.consumeToken d else s).capture = s.capture :=
    State.ite_keeps State.capture (s.consumeToken_capture d) rfl
  have hport : (if s.consumes c (outcomeOf s d c) = true then s.consumeToken d else s).portOf d = s.portOf d :=
    State.ite_keeps (·.portOf d) rfl rfl
  have hmode : (if s.consumes c (outcomeOf s d c) = true then s.consumeToken d else s).mode = s.mode :=
    State.ite_keeps State.mode rfl rfl
  generalize (if s.consumes c (outcomeOf s d c) = true then s.consumeToken d else s) = v at hcapture hport hmode ⊢
  by_cases ho : outcomeOf s d c = .admitted
  · have hrec : (v.buffer v.capture.writePtr).recording = true := by
      rw [hcapture, hbuffer _ hcapture]
      exact (Buffer.recording_iff _).mpr hinto
    rw [if_pos ⟨ho, hmode.trans hpark⟩, if_pos ho, State.trigger, State.triggerBuffer, if_pos hrec]
    dsimp only
    rw [hcapture, State.buffer_updBuffer_self v _ (by rw [hcapture]; exact State.recordsInto_range hinto), hport,
      hbuffer _ hcapture]
  · rw [if_neg (fun h => ho h.1), if_neg ho, hbuffer _ hcapture]

/-! ### A round in PARK -/

section
variable (q : Domain → Bool) (cls : Domain → WakeClass) (causeOf : Domain → Cause)

theorem State.Wakes.request (hs : s.PortsFollow) (d : Domain) : s.Wakes (s.request q cls causeOf d) := by
  unfold State.request
  split
  · exact .wakeRequest hs d _ _
  · exact .refl hs

theorem State.Wakes.recordsInto (h : s.Wakes t) (hinto : recordsInto (s.buffer s.capture.writePtr)) :
    recordsInto (t.buffer s.capture.writePtr) := by
  rcases h.grew with hsame | htriggered
  · rw [hsame]; exact hinto
  · exact .inr htriggered.state

/-- The domains that a round admits, judged before it begins. -/
def admittedOf (s : State) (q : Domain → Bool) (cls : Domain → WakeClass) (d : Domain) : Bool :=
  q d && outcomeOf s d (cls d) == .admitted

/-- Over a round in PARK the buffer at the write pointer takes one trigger for each domain admitted, in domain order. -/
theorem State.foldl_request_buffer (hpark : s.mode = .park) (hinto : recordsInto (s.buffer s.capture.writePtr))
    (l : List Domain) (hl : l.Nodup) (hwakes : s.Wakes u) (hb : u.bench = s.bench) (hd : ∀ d ∈ l, u.claimant d = s.claimant d) :
    (l.foldl (State.request q cls causeOf) u).buffer s.capture.writePtr =
      (u.buffer s.capture.writePtr).takes s.capture.post s.portOf causeOf (l.filter (admittedOf s q cls)) := by
  induction l generalizing u with
  | nil => rfl
  | cons d l ih =>
    obtain ⟨hmem, hl⟩ := List.nodup_cons.mp hl
    have hstep := ih hl (hwakes.trans (.request q cls causeOf hwakes.follow d)) ((u.request_bench q cls causeOf d).trans hb)
      (fun e he => (u.request_claimant_ne q cls causeOf (fun hed : e = d => hmem (hed ▸ he))).trans (hd e (List.mem_cons_of_mem _ he)))
    have hptr := State.writePtr_of_calm hwakes.calm
    have hbuffer := State.wakeRequest_buffer hwakes.follow ((State.mode_of_calm hwakes.calm).trans hpark)
      (by rw [hptr]; exact hwakes.recordsInto hinto) d (cls d) (causeOf d)
    rw [State.outcomeOf_congr hb (hd d List.mem_cons_self), hptr, State.post_of_calm hwakes.calm,
      State.portOf_of_calm hwakes.calm] at hbuffer
    rw [List.foldl_cons, hstep, State.request]
    by_cases hq : q d = true
    · rw [if_pos hq, hbuffer]
      by_cases ho : outcomeOf s d (cls d) = .admitted
      · rw [if_pos ho, List.filter_cons_of_pos (by simp [admittedOf, hq, ho])]
        rfl
      · rw [if_neg ho, List.filter_cons_of_neg (by simp [admittedOf, ho])]
    · rw [if_neg hq, List.filter_cons_of_neg (by simp [admittedOf, hq])]

theorem State.round_buffer (hs : s.PortsFollow) (hpark : s.mode = .park)
    (hinto : Claims.recordsInto (s.buffer s.capture.writePtr)) :
    (s.eachDomain (State.request q cls causeOf)).buffer s.capture.writePtr =
      (s.buffer s.capture.writePtr).takes s.capture.post s.portOf causeOf (domainsWhere (admittedOf s q cls)) :=
  State.foldl_request_buffer q cls causeOf hpark hinto _ (List.nodup_finRange 12) (.refl hs) rfl (fun _ _ => rfl)

end

/-! ### Recording before it, and closing after it -/

/-- Recording a frame keeps the triggers of a buffer. -/
theorem Buffer.write_trigger (b : Buffer) (size : Nat) (f : StoredFrame) : (b.write size f).trigger = b.trigger := by
  unfold Buffer.write
  cases b.stop <;> dsimp only <;> split <;> rfl

theorem State.handled_triggers (hnone : ∀ d, ¬recognisedBy s r d) (hinto : recordsInto (s.buffer s.capture.writePtr)) :
    ((s.handled r).buffer s.capture.writePtr).trigger = (s.buffer s.capture.writePtr).trigger ∧
      ((s.handled r).buffer s.capture.writePtr).woken = (s.buffer s.capture.writePtr).woken := by
  rw [(State.records_handled hnone).written hinto]
  split
  · exact ⟨Buffer.write_trigger _ _ _, ((s.buffer s.capture.writePtr).write_post _ _).2.2.1⟩
  · exact ⟨rfl, rfl⟩

/-- The buffer at the write pointer after a round that follows the recording, in the words of the state before the completion. -/
theorem State.handled_round_buffer (hnone : ∀ d, ¬recognisedBy s r d) (hs : s.PortsFollow) (hpark : s.mode = .park)
    (hinto : recordsInto (s.buffer s.capture.writePtr)) (q : Domain → Bool) (cls : Domain → WakeClass) (causeOf : Domain → Cause) :
    ((s.handled r).eachDomain (State.request q cls causeOf)).buffer s.capture.writePtr =
      ((s.handled r).buffer s.capture.writePtr).takes s.capture.post s.portOf causeOf (domainsWhere (admittedOf s q cls)) := by
  have untouched := State.untouched_handled hnone
  have records := State.records_handled hnone
  obtain ⟨hfollow, hportOf⟩ := State.handled_follow hnone hs
  have hadmitted : admittedOf (s.handled r) q cls = admittedOf s q cls := funext (fun d => by
    rw [admittedOf, State.outcomeOf_congr untouched.bench (untouched.claimant d), admittedOf])
  have hstate := (State.handled_buffer hnone hinto).1
  have hmode : (s.handled r).mode = .park := (congrArg Management.mode (State.bench_eq_iff.mp untouched.bench).1).trans hpark
  have := State.round_buffer q cls causeOf hfollow hmode (by rw [records.writePtr, recordsInto, hstate]; exact hinto)
  rw [records.writePtr, records.post, hportOf, hadmitted] at this
  exact this

/-- A buffer that does not close at the end of the evaluation stands, and one that closes keeps its triggers. -/
theorem State.Ready.closed (h : s.Ready r u) (hstore : s.StoreFits) (hpark : s.mode = .park) :
    (¬((u.buffer s.capture.writePtr).state = .post ∧ (u.buffer s.capture.writePtr).postLeft = 0) →
        u.closeIfComplete.buffer s.capture.writePtr = u.buffer s.capture.writePtr) ∧
      (u.closeIfComplete.buffer s.capture.writePtr).trigger = (u.buffer s.capture.writePtr).trigger ∧
      (u.closeIfComplete.buffer s.capture.writePtr).woken = (u.buffer s.capture.writePtr).woken := by
  have hclose := State.closeBuffer_eq (s := u) (by rw [h.mode]; exact h.length.trans hstore.1)
    (by rw [h.mode, h.writePtr]; exact hstore.2.1) ((congrArg Management.mode h.management).trans hpark)
  rw [h.writePtr] at hclose
  rw [h.closeIfComplete]
  split
  · next hdone =>
    rw [hclose.1]
    exact ⟨fun hopen => absurd hdone hopen, rfl, rfl⟩
  · exact ⟨fun _ => rfl, rfl, rfl⟩

section
variable (ready : s.Ready r u) (hnone : ∀ d, ¬recognisedBy s r d) (hstore : s.StoreFits) (hpark : s.mode = .park)
include ready hnone hstore hpark

/-- An OPEN buffer that no admission triggers stays OPEN. -/
theorem State.Ready.untriggered (hopen : (s.buffer s.capture.writePtr).state = .opened)
    (hsame : u.buffer s.capture.writePtr = (s.handled r).buffer s.capture.writePtr) :
    (u.closeIfComplete.buffer s.capture.writePtr).state = .opened ∧
      (u.closeIfComplete.buffer s.capture.writePtr).trigger = (s.buffer s.capture.writePtr).trigger := by
  have hstate := (State.handled_buffer hnone (.inl hopen)).1.trans hopen
  rw [(ready.closed hstore hpark).1 (fun h => by rw [hsame, hstate] at h; cases h.1), hsame]
  exact ⟨hstate, (State.handled_triggers hnone (.inl hopen)).1⟩

/-- The first admission triggers an OPEN buffer, and the others merge. -/
theorem State.Ready.triggered_opened (hopen : (s.buffer s.capture.writePtr).state = .opened)
    (hbuffer : u.buffer s.capture.writePtr = ((s.handled r).buffer s.capture.writePtr).takes s.capture.post s.portOf causeOf ds)
    (hnodup : ds.Nodup) (hd : d ∈ ds.head?) :
    (u.closeIfComplete.buffer s.capture.writePtr).trigger = triggerOf (causeOf d) ∧
      (u.closeIfComplete.buffer s.capture.writePtr).woken = setOf ds ∧
      (s.capture.post ≠ 0 → (u.closeIfComplete.buffer s.capture.writePtr).state = .post ∧
        (u.closeIfComplete.buffer s.capture.writePtr).postLeft = s.capture.post ∧
        (u.closeIfComplete.buffer s.capture.writePtr).pending = portsWhere (fun p => ds.any (fun e => s.portOf e == p))) := by
  have hstate := (State.handled_buffer hnone (.inl hopen)).1.trans hopen
  obtain ⟨hstay, htrigger, hwoken⟩ := ready.closed hstore hpark
  obtain ⟨rest, rfl⟩ := List.head?_eq_some_iff.mp hd
  obtain ⟨hpost, htrigger', hleft, hwoken', hpending⟩ := Buffer.takes_opened (post := s.capture.post) (place := s.portOf)
    (causeOf := causeOf) hstate hnodup
  rw [← hbuffer] at hpost htrigger' hleft hwoken' hpending
  refine ⟨htrigger.trans htrigger', hwoken.trans hwoken', fun hne => ?_⟩
  rw [hstay (fun h => hne (hleft.symm.trans h.2))]
  exact ⟨hpost, hleft, hpending⟩

/-- A POST buffer merges the admissions, and keeps its trigger. -/
theorem State.Ready.triggered_post (hpost : (s.buffer s.capture.writePtr).state = .post)
    (hbuffer : u.buffer s.capture.writePtr = ((s.handled r).buffer s.capture.writePtr).takes s.capture.post s.portOf causeOf ds)
    (hnodup : ds.Nodup) :
    (u.closeIfComplete.buffer s.capture.writePtr).trigger = (s.buffer s.capture.writePtr).trigger ∧
      (u.closeIfComplete.buffer s.capture.writePtr).woken = (s.buffer s.capture.writePtr).woken ||| setOf ds := by
  have hstate := (State.handled_buffer hnone (.inr hpost)).1.trans hpost
  obtain ⟨-, htrigger, hwoken⟩ := ready.closed hstore hpark
  obtain ⟨htriggers, hwokens⟩ := State.handled_triggers hnone (.inr hpost)
  obtain ⟨-, htrigger', -, hwoken', -⟩ := Buffer.takes_post (post := s.capture.post) (place := s.portOf) (causeOf := causeOf)
    hstate hnodup
  rw [← hbuffer] at htrigger' hwoken'
  rw [htrigger, htrigger', htriggers, hwoken, hwoken', hwokens]
  exact ⟨rfl, rfl⟩

end

end Sys2Proof.Machine

open Sys2Proof Sys2Proof.Machine Sys2Proof.Claims

/-- Settles O50, by the round of requests that the direct wakes are. -/
theorem completionMakesTheDirectWakes : Obligations.CompletionMakesTheDirectWakes := by
  intro s r hflight hnone hplain
  have untouched := State.untouched_handled hnone
  have hround : (s.handled r).wakesOf (s.matching r) =
      (s.handled r).eachDomain (State.request (directlyWoken s r) (directClass s r) (directCause s r)) := by
    rw [State.wakesOf, State.directRound untouched.active]
    exact State.foldl_contributeRow_plain
      ((congrArg Engine.active (State.engine_of_fixed (State.round_fixed _ _ _ _))).trans untouched.active) _
      (fun i hi => hplain i (mem_matching.mp hi))
  have hcomplete : s.idleEngine.complete r = ((s.handled r).eachDomain
      (State.request (directlyWoken s r) (directClass s r) (directCause s r))).closeIfComplete := by
    rw [State.complete_eq, hround]
  obtain ⟨hcauses, hdoms⟩ := State.round_spec (directlyWoken s r) (directClass s r) (directCause s r) untouched.bench
    untouched.claimant untouched.causes
  refine ⟨s.idleEngine.complete r, by simp only [exec, execEvaluationCompletion, hflight], ?_, fun d => ?_, ?_, ?_,
    fun hpark hs hstore _ => ?_⟩
  · rw [hcomplete, State.closeIfComplete_causes]
    exact hcauses
  · rw [hcomplete, State.dom_of_domains (State.closeIfComplete_domains _), hdoms]
    by_cases hd : wakingRows s r d = []
    · rw [if_neg (fun h => directlyWoken_iff.mp h hd), if_pos hd]
    · rw [if_pos (directlyWoken_iff.mpr hd), if_neg hd]
      rfl
  · rw [hcomplete, State.contributions_of_fixed (State.closeIfComplete_fixed _),
      State.contributions_of_fixed (State.round_fixed _ _ _ _), untouched.contributions]
  · rw [hcomplete, State.closeIfComplete_account]
    exact (State.bench_eq_iff.mp ((State.round_bench _ _ _ _).trans untouched.bench)).2.1
  · have ready := State.ready_wakesOf hnone hs
    rw [hround] at ready
    have hbuffer := fun hinto => State.handled_round_buffer hnone hs hpark hinto (directlyWoken s r) (directClass s r)
      (directCause s r)
    have hnodup : (domainsWhere (admittedOf s (directlyWoken s r) (directClass s r))).Nodup := (List.nodup_finRange 12).filter _
    rw [hcomplete]
    refine ⟨fun hopen hnil => ?_, fun hopen d hd => ?_, fun hpost => ?_⟩
    · exact ready.untriggered hnone hstore hpark hopen ((hbuffer (.inl hopen)).trans (congrArg _ hnil))
    · exact ready.triggered_opened hnone hstore hpark hopen (hbuffer (.inl hopen)) hnodup hd
    · exact ready.triggered_post hnone hstore hpark hpost (hbuffer (.inr hpost)) hnodup

end

section
/-! Stage Group (O27): the order of its checks, and the definition that it writes. -/

namespace Sys2Proof.Machine

open Sys2Proof.Claims

variable {u : State} {args : List Byte}

/-! ### Values brought into range (R46, R74) -/

theorem clampTo_eq {low high : Nat} (h : low ≤ high) (n : Nat) :
    clampTo low high n = if n < low then low else if high < n then high else n := by
  unfold clampTo
  split_ifs <;> omega

theorem clampTo_eq_self_iff {low high n : Nat} (h : low ≤ high) : clampTo low high n = n ↔ low ≤ n ∧ n ≤ high := by
  unfold clampTo
  omega

/-! ### The group definition in its bytes (R46, R176) -/

theorem asClass_val (c : WakeClass) : asClass c.val = some c := by simp [asClass]

theorem asClass_of_lt {n : Nat} (h : 3 < n) : asClass n = none := dif_neg (by omega)

/-- The group definition in the claims' words. -/
theorem groupPart_eq (b2 b3 b4 b5 b6 b7 : Byte) (c : WakeClass) :
    groupPart [b2, b3, b4, b5, b6, b7] c =
      let k := b3.toNat % 16
      let w := 256 * b4.toNat + b5.toNat
      { enabled := b3.getLsbD 7
        threshold := if k < 1 then 1 else if 8 < k then 8 else k
        window := if w < 10 then 10 else if 60000 < w then 60000 else w
        cls := c
        wake := BitVec.ofNat 12 (256 * b6.toNat + b7.toNat) } := by
  dsimp only
  rw [← clampTo_eq (by decide), ← clampTo_eq (by decide), Nat.mul_comm 256, Nat.mul_comm 256,
    show b3.toNat % 16 = bitField b3 0 4 from (bitField_zero b3 4).symm]
  rfl

/-- A definition is brought into range exactly when its threshold or its window is out of range. -/
theorem groupClamped_iff (b2 b3 b4 b5 b6 b7 : Byte) :
    groupClamped [b2, b3, b4, b5, b6, b7] = true ↔
      ¬(1 ≤ b3.toNat % 16 ∧ b3.toNat % 16 ≤ 8 ∧
        10 ≤ 256 * b4.toNat + b5.toNat ∧ 256 * b4.toNat + b5.toNat ≤ 60000) := by
  have hthreshold : bitField (argByte [b2, b3, b4, b5, b6, b7] 3) 0 4 = b3.toNat % 16 := bitField_zero b3 4
  have hwindow : argWord [b2, b3, b4, b5, b6, b7] 4 = 256 * b4.toNat + b5.toNat := by rw [Nat.mul_comm 256]; rfl
  rw [groupClamped, hthreshold, hwindow, Bool.or_eq_true, bne_iff_ne, bne_iff_ne, Ne, Ne,
    clampTo_eq_self_iff (by decide), clampTo_eq_self_iff (by decide), ← not_and_or, and_assoc]

/-! ### The checks in their order (R37, R46) -/

theorem answerStageGroup_index (h : 8 ≤ (argByte args 2).toNat) : answerStageGroup args u = (u, .bare .index) := by
  rw [answerStageGroup, asGroup_of_le h]

theorem answerStageGroup_closed {g : GroupIx} {refusal : Reply} (hg : g.val = (argByte args 2).toNat)
    (hc : u.stagingClosed = some refusal) : answerStageGroup args u = (u, .bare refusal) := by
  simp only [answerStageGroup, ← hg, asGroup_val, hc]

theorem answerStageGroup_value {g : GroupIx} (hg : g.val = (argByte args 2).toNat) (hopen : u.stagingClosed = none)
    (hc : 3 < bitField (argByte args 3) 4 3) : answerStageGroup args u = (u, .bare .value) := by
  simp only [answerStageGroup, ← hg, asGroup_val, hopen, asClass_of_lt hc]

/-- An open Stage Group with a class in range writes the whole definition. -/
theorem answerStageGroup_written {g : GroupIx} {c : WakeClass} (hg : g.val = (argByte args 2).toNat)
    (hopen : u.stagingClosed = none) (hc : c.val = bitField (argByte args 3) 4 3) :
    answerStageGroup args u =
      (u.updEngine (fun e =>
        { e with staging := { e.staging with groups := e.staging.groups.set g (groupPart args c) } }),
       .bare (if groupClamped args = true then .clamped else .ok)) := by
  simp only [answerStageGroup, ← hg, asGroup_val, hopen, ← hc, asClass_val]

end Sys2Proof.Machine

open Sys2Proof Sys2Proof.Machine Sys2Proof.Claims

/-- Settles O27: the checks one after the other, and then the definition and whether it was brought into range. -/
theorem stageGroupWritesTheDefinition : Obligations.StageGroupWritesTheDefinition := by
  intro s tag b2 b3 b4 b5 b6 b7 hs
  have hexec := takeRequest_answered (s := s) (code := 0x0E) (tag := tag) (args := [b2, b3, b4, b5, b6, b7])
    (manage := manageStageGroup) hs (Nat.le_refl 6) (fun _ => rfl)
  rw [show frameArgs [b2, b3, b4, b5, b6, b7] = [b2, b3, b4, b5, b6, b7] from rfl] at hexec
  refine ⟨fun hindex => ⟨_, hexec, ?_⟩, fun g hg => ⟨_, hexec, ?_⟩⟩
  · rw [answerStageGroup_index (args := [b2, b3, b4, b5, b6, b7]) hindex]
    rfl
  · beta_reduce
    by_cases hp : s.engine.commitPending = true
    · rw [if_pos hp, answerStageGroup_closed hg (State.stagingClosed_busy (u := taken s) hp)]
      rfl
    · by_cases hl : s.engine.latch = false
      · rw [if_neg hp, if_pos hl,
          answerStageGroup_closed hg (State.stagingClosed_latch (u := taken s) (Bool.eq_false_iff.mpr hp) hl)]
        rfl
      · have hopen := State.stagingClosed_open (u := taken s) (Bool.eq_false_iff.mpr hp) (Bool.of_not_eq_false hl)
        rw [if_neg hp, if_neg hl]
        refine ⟨fun hclass => ?_, fun c hc => ?_⟩
        · rw [answerStageGroup_value (args := [b2, b3, b4, b5, b6, b7]) hg hopen hclass]
          rfl
        · rw [answerStageGroup_written hg hopen hc, groupPart_eq]
          by_cases hrange : 1 ≤ b3.toNat % 16 ∧ b3.toNat % 16 ≤ 8 ∧
              10 ≤ 256 * b4.toNat + b5.toNat ∧ 256 * b4.toNat + b5.toNat ≤ 60000
          · rw [if_pos hrange, if_neg (fun h => (groupClamped_iff b2 b3 b4 b5 b6 b7).mp h hrange)]
            rfl
          · rw [if_neg hrange, if_pos ((groupClamped_iff b2 b3 b4 b5 b6 b7).mpr hrange)]
            rfl

end

section
/-! The step with no command waiting (O2): the commands of the expiries that are due are what the model takes before a
millisecond passes, and the millisecond counts every timer that runs on its base. -/

namespace Sys2Proof.Machine

open Sys2Proof.Claims

variable {s : State}

/-! ### What is due (assumption log 6) -/

/-- The commands of the expiries that are due take what the model takes before time goes on. -/
theorem settled_eq_takeDue (s : State) : settled s = s.takeDue := by
  have htimers : ∀ u : State, ((List.finRange 8).map Instr.timerExpiry).foldl (fun t c => after c t) u =
      (List.finRange 8).foldl State.timersDueTo u := fun _ => List.foldl_map
  have hdomains : ∀ u : State, ((List.finRange 12).flatMap
        (fun d => [Instr.refillExpiry d, .minAwakeElapse d, .idleExpiry d])).foldl (fun t c => after c t) u =
      u.eachDomain State.domainDue := fun _ => List.foldl_flatMap
  rw [settled, dueCommands, List.foldl_append, htimers, hdomains, State.takeDue]

theorem State.domainDue_of_nothingDue (h : NothingDue s) (d : Domain) : s.domainDue d = s := by
  obtain ⟨hrefill, hmin, hidle⟩ := h.2 d
  rw [State.domainDue, State.refillsDueTo_of_ne s hrefill, State.minAwakeDue_of_ne s hmin, State.idleDue_of_ne s hidle]

theorem State.timersDueTo_of_nothingDue (h : NothingDue s) (k : TimerIx) : s.timersDueTo k = s :=
  s.timersDueTo_of_not_due (by
    rw [TimerRec.due, Bool.and_eq_false_imp]
    exact fun hrunning => beq_eq_false_iff_ne.mpr (h.1 k hrunning))

/-- Where nothing is due, nothing is taken. -/
theorem State.takeDue_of_nothingDue (h : NothingDue s) : s.takeDue = s := by
  rw [State.takeDue, List.foldl_fixed' (State.timersDueTo_of_nothingDue h), State.eachDomain,
    List.foldl_fixed' (State.domainDue_of_nothingDue h)]

/-! ### One millisecond (assumption log 2) -/

theorem countMs_eq (n : Nat) : countMs n = n - if 1 < n then 1 else 0 := by
  unfold countMs
  split_ifs <;> omega

theorem map_countMs (o : Option Nat) : o.map countMs = o.map (fun n => n - if 1 < n then 1 else 0) :=
  congrArg o.map (funext countMs_eq)

theorem PortUnit.ms_eq (u : PortUnit) :
    u.ms = { u with recovery := u.recovery.map (fun n => n - if 1 < n then 1 else 0) } := by
  rw [PortUnit.ms, map_countMs]

theorem DomainRec.ms_eq (r : DomainRec) :
    r.ms =
      { r with
        readyTimer := r.readyTimer.map (fun n => n - if 1 < n then 1 else 0)
        windTimer := r.windTimer.map (fun n => n - if 1 < n then 1 else 0) } := by
  rw [DomainRec.ms, map_countMs, map_countMs]

theorem State.countsMs_management (s : State) :
    s.countsMs.management =
      { s.management with
        secondLeft := s.management.secondLeft - if 1 < s.management.secondLeft then 1 else 0
        resetDeadline := s.management.resetDeadline.map (fun n => n - if 1 < n then 1 else 0) } := by
  rw [← map_countMs, ← countMs_eq]
  rfl

theorem State.countsMs_lineUnit (s : State) :
    s.countsMs.lineUnit =
      { s.lineUnit with sampleLeft := s.lineUnit.sampleLeft - if 1 < s.lineUnit.sampleLeft then 1 else 0 } := by
  rw [← countMs_eq]
  rfl

theorem State.countsMs_queue (s : State) : s.countsMs.slots.queue = s.slots.queue := rfl

theorem State.countsMs_holder (s : State) (d : Domain) :
    s.countsMs.slots.holders.get d = (s.slots.holders.get d).map HoldPhase.ms := Tab.get_map _ _ _

theorem State.port_expireContributions (s : State) (p : Port) : s.expireContributions.port p = s.port p := rfl

theorem State.dom_expireContributions (s : State) (d : Domain) : s.expireContributions.dom d = s.dom d := rfl

theorem State.not_windowReached (s : State) (g : GroupIx) (n : Nat) :
    (!s.windowReached g n) = decide (s.timeBase < n + (s.engine.active.groups.get g).window) := by
  rw [State.windowReached, ← decide_not, decide_eq_decide, Nat.not_le]

theorem step_idle (h : s.pending = []) : step s = .next s.tick := by rw [step, h]

end Sys2Proof.Machine

open Sys2Proof Sys2Proof.Machine Sys2Proof.Claims

/-- Settles O2, block by block of the millisecond that follows what is due. -/
theorem anIdleStepIsOneMillisecond : Obligations.AnIdleStepIsOneMillisecond := by
  refine ⟨fun s hs => ⟨s.tick, step_idle hs, ?_⟩, fun s h => (settled_eq_takeDue s).trans (State.takeDue_of_nothingDue h)⟩
  dsimp only
  rw [settled_eq_takeDue, State.tick]
  refine ⟨?_, s.takeDue_timeBase, ?_, fun p => ?_, fun d => ?_, fun d => ?_, ?_, fun g => ?_,
    ?_, ?_, ?_, ?_, ?_, ?_, ?_, ?_⟩
  · rw [State.countsMs_timeBase, State.expireContributions_timeBase, s.takeDue_timeBase]
  · rw [State.countsMs_management, State.expireContributions_management]
  · rw [State.countsMs_port, PortUnit.ms_eq, State.port_expireContributions]
  · rw [State.countsMs_dom, DomainRec.ms_eq, State.dom_expireContributions]
  · rw [State.countsMs_holder, State.expireContributions_slots, s.takeDue_slots]
    rcases s.slots.holders.get d with _ | _ | n
    · rfl
    · rfl
    · exact congrArg (fun n => some (HoldPhase.hold n)) (countMs_eq n)
  · rw [State.countsMs_lineUnit, State.expireContributions_lineUnit, s.takeDue_lineUnit]
  · rw [State.countsMs_contributions, State.expireContributions_get, s.takeDue_contributions]
    simp only [State.not_windowReached, s.takeDue_timeBase, s.takeDue_engine]
  -- what remains are the blocks that a millisecond leaves as they are
  all_goals simp [State.countsMs_queue, hs]

end

section
/-! The park timers (O45): the requests that write a timer's record, and the expiries that are due at one park second. -/

namespace Sys2Proof.Machine

open Sys2Proof.Claims

variable {s u : State} {i k : TimerIx} {args : List Byte}

/-! ### The record of a timer and its report (R64, R178) -/

theorem asTimer_val (k : TimerIx) : asTimer k.val = some k := by simp [asTimer]

theorem asTimer_of_le {n : Nat} (h : 8 ≤ n) : asTimer n = none := by simp [asTimer, Nat.not_lt.mpr h]

theorem secondsLeft_eq_shown (n : Nat) : secondsLeft n = shown n := by
  unfold secondsLeft shown
  split <;> omega

theorem TimerRec.held_eq (r : TimerRec) : r.held = heldCount r := by
  rw [TimerRec.held, secondsLeft_eq_shown, heldCount]

theorem timerRecordBytes_eq (r : TimerRec) : timerRecordBytes r = timerReport r := by
  rw [timerRecordBytes, timerReport, beBytes_two, TimerRec.held_eq]
  simp only [oneByte, boolBit, mul_ite, Nat.mul_one, Nat.mul_zero]
  cases r.mode <;> rfl

theorem State.updTimer_eq_onTimer (s : State) (k : TimerIx) (f : TimerRec → TimerRec) :
    s.updTimer k f = onTimer s k (f (s.timer k)) := rfl

@[simp] theorem onTimer_onTimer (s : State) (k : TimerIx) (q r : TimerRec) : onTimer (onTimer s k q) k r = onTimer s k r := by
  simp [onTimer, Tab.set_set]

theorem onTimer_timer (s : State) (k i : TimerIx) (r : TimerRec) : (onTimer s k r).timer i = if i = k then r else s.timer i :=
  Tab.get_set _ _ _ _

/-- A timer request is answered with the record that it leaves. -/
theorem State.timerAnswer_updTimer (u : State) (k : TimerIx) (f : TimerRec → TimerRec) (reply : Reply) :
    (u.updTimer k f).timerAnswer k reply =
      (onTimer u k (f (u.timer k)), { reply := reply, data := timerReport (f (u.timer k)) }) := by
  rw [State.timerAnswer, State.timer_updTimer_self, timerRecordBytes_eq, State.updTimer_eq_onTimer]

/-! ### The requests on a timer (R66 to R68) -/

/-- A request on a timer is answered as its body says. -/
theorem exec_configureTimer {tag b b3 b4 b5 : Byte} {rest : List Byte} (hs : Executes s) :
    exec (.configureTimer tag (b :: b3 :: b4 :: b5 :: rest)) s = .next
      (answered (answerConfigureTimer (b :: b3 :: b4 :: b5 :: rest.take 2) (taken s)).1
        (responseBytes 0x32 tag (answerConfigureTimer (b :: b3 :: b4 :: b5 :: rest.take 2) (taken s)).2)) :=
  takeRequest_answered hs (by simp [frameArgs]) (fun _ => rfl)

theorem exec_startTimer {tag b : Byte} {rest : List Byte} (hs : Executes s) :
    exec (.startTimer tag (b :: rest)) s = .next (answered (answerStartTimer (b :: rest.take 5) (taken s)).1
      (responseBytes 0x33 tag (answerStartTimer (b :: rest.take 5) (taken s)).2)) :=
  takeRequest_answered hs (by simp [frameArgs]) (fun _ => rfl)

theorem exec_stopTimer {tag b : Byte} {rest : List Byte} (hs : Executes s) :
    exec (.stopTimer tag (b :: rest)) s = .next (answered (answerStopTimer (b :: rest.take 5) (taken s)).1
      (responseBytes 0x34 tag (answerStopTimer (b :: rest.take 5) (taken s)).2)) :=
  takeRequest_answered hs (by simp [frameArgs]) (fun _ => rfl)

theorem answerConfigureTimer_index (h : 8 ≤ (argByte args 2).toNat) : answerConfigureTimer args u = (u, .bare .index) := by
  rw [answerConfigureTimer, asTimer_of_le h]

theorem answerStartTimer_index (h : 8 ≤ (argByte args 2).toNat) : answerStartTimer args u = (u, .bare .index) := by
  rw [answerStartTimer, asTimer_of_le h]

theorem answerStopTimer_index (h : 8 ≤ (argByte args 2).toNat) : answerStopTimer args u = (u, .bare .index) := by
  rw [answerStopTimer, asTimer_of_le h]

theorem answerConfigureTimer_query (hk : k.val = (argByte args 2).toNat) (hq : (argByte args 3).getLsbD 7 = true) :
    answerConfigureTimer args u = (u, .okay (timerReport (u.timer k))) := by
  simp only [answerConfigureTimer, ← hk, asTimer_val, if_pos hq, State.timerAnswer, timerRecordBytes_eq]
  rfl

theorem answerConfigureTimer_value (hk : k.val = (argByte args 2).toNat) (hq : (argByte args 3).getLsbD 7 ≠ true)
    (hm : asTimerMode (bitField (argByte args 3) 0 2) = none) : answerConfigureTimer args u = (u, .bare .value) := by
  simp only [answerConfigureTimer, ← hk, asTimer_val, if_neg hq, hm]

theorem answerConfigureTimer_written {mode : TimerMode} (hk : k.val = (argByte args 2).toNat)
    (hq : (argByte args 3).getLsbD 7 ≠ true) (hm : asTimerMode (bitField (argByte args 3) 0 2) = some mode) :
    answerConfigureTimer args u =
      let r := (u.timer k).configured mode (argWord args 4) ((argByte args 3).getLsbD 6)
      (onTimer u k r, { reply := if argWord args 4 = 0 then .clamped else .ok, data := timerReport r }) := by
  simp only [answerConfigureTimer, ← hk, asTimer_val, if_neg hq, hm, State.timerAnswer_updTimer]

theorem answerStartTimer_written (hk : k.val = (argByte args 2).toNat) :
    answerStartTimer args u =
      let r := { u.timer k with remaining := (u.timer k).preload, running := true }
      (onTimer u k r, .okay (timerReport r)) := by
  simp only [answerStartTimer, ← hk, asTimer_val, State.timerAnswer_updTimer]
  rfl

theorem answerStopTimer_written (hk : k.val = (argByte args 2).toNat) :
    answerStopTimer args u =
      let r := { u.timer k with running := false, remaining := heldCount (u.timer k) }
      (onTimer u k r, .okay (timerReport r)) := by
  simp only [answerStopTimer, ← hk, asTimer_val, State.timerAnswer_updTimer, TimerRec.held_eq]
  rfl

/-- The mode of a code, where there is one. -/
theorem asTimerMode_eq (n : Nat) :
    asTimerMode n = if 2 ≤ n then none else some (if n = 0 then .oneShot else .periodic) := by
  match n with
  | 0 => rfl
  | 1 => rfl
  | n + 2 => rw [if_pos (Nat.le_add_left 2 n)]; rfl

theorem TimerRec.configured_eq (r : TimerRec) (mode : TimerMode) (n : Nat) (thinning : Bool) :
    r.configured mode n thinning =
      { r with mode := mode, preload := if n = 0 then 1 else n, thinning := thinning, expiries := 0 } := by
  rw [TimerRec.configured, show max 1 n = if n = 0 then 1 else n by split <;> omega]

/-! ### The expiry of a timer (R65, R69 to R71) -/

theorem TimerRec.due_iff (s : State) (k : TimerIx) : (s.timer k).due = true ↔ Claims.timerDue s k := by
  rw [TimerRec.due, Bool.and_eq_true, beq_iff_eq]
  rfl

theorem TimerRec.expired_eq {r : TimerRec} (h : r.running = true) : r.expired = expiredRec r := by
  cases hm : r.mode <;> simp [TimerRec.expired, expiredRec, hm, h]

theorem TimerRec.thinned_eq (s : State) (r : TimerRec) (count : Byte) :
    r.thinned s.mode s.account.tier count = thins s r count.toNat := by
  rw [TimerRec.thinned, thins]
  cases s.account.tier <;> rfl

/-- The expiry of a timer that is due, in the claims' words. -/
theorem State.timerExpires_eq (h : Claims.timerDue s k) : s.timerExpires k = timerExpired s k := by
  have hexpired : (s.timer k).expired = expiredRec (s.timer k) := TimerRec.expired_eq h.1
  unfold State.timerExpires timerExpired
  dsimp only
  rw [State.updTimer_eq_onTimer, hexpired, TimerRec.thinned_eq]
  refine if_congr Iff.rfl rfl ?_
  unfold State.timerEvent
  refine if_congr Iff.rfl rfl ?_
  rw [State.updTimer_eq_onTimer, onTimer_onTimer, onTimer_timer, if_pos rfl]
  rfl

theorem timer_timerExpired_ne (s : State) (h : i ≠ k) : (timerExpired s k).timer i = s.timer i := by
  unfold timerExpired
  dsimp only
  split
  · exact Tab.get_set_ne _ _ h
  · split <;> exact Tab.get_set_ne _ _ h

/-- A pass over some timers takes the expiries of those that are due when it begins. -/
theorem State.foldl_timerDue (l : List TimerIx) (hl : l.Nodup) (s : State) :
    l.foldl State.timerDue s = (l.filter (fun i => decide (Claims.timerDue s i))).foldl timerExpired s := by
  induction l generalizing s with
  | nil => rfl
  | cons k l ih =>
    obtain ⟨hk, hl⟩ := List.nodup_cons.mp hl
    rw [List.foldl_cons, ih hl, State.timerDue]
    by_cases hdue : Claims.timerDue s k
    · rw [if_pos ((TimerRec.due_iff s k).mpr hdue), State.timerExpires_eq hdue,
        List.filter_cons_of_pos (by simpa using hdue), List.foldl_cons]
      have hrest : ∀ i ∈ l, decide (Claims.timerDue (timerExpired s k) i) = decide (Claims.timerDue s i) := fun i hi => by
        have hik : i ≠ k := fun h => hk (h ▸ hi)
        rw [decide_eq_decide, ← TimerRec.due_iff, ← TimerRec.due_iff, timer_timerExpired_ne s hik]
      rw [List.filter_congr hrest]
    · rw [if_neg (fun h => hdue ((TimerRec.due_iff s k).mp h)), List.filter_cons_of_neg (by simpa using hdue)]

/-- The expiries that a timer's expiry takes with it, in the claims' words. -/
theorem State.timersDueTo_eq (s : State) (k : TimerIx) :
    s.timersDueTo k =
      if Claims.timerDue s k then
        ((List.finRange 8).filter (fun i => decide (i ≤ k ∧ Claims.timerDue s i))).foldl timerExpired s
      else s := by
  refine if_congr (TimerRec.due_iff s k) ?_ rfl
  rw [State.foldl_timerDue _ ((List.nodup_finRange 8).filter _), List.filter_filter]
  refine congrArg (List.foldl timerExpired s) (List.filter_congr (fun i _ => ?_))
  rw [← Bool.decide_and, decide_eq_decide, and_comm]

end Sys2Proof.Machine

open Sys2Proof Sys2Proof.Machine Sys2Proof.Claims

/-- Settles O45, by the request and its checks; the expiry is `State.timersDueTo_eq`. -/
theorem timersAreSetStartedStoppedAndExpire : Obligations.TimersAreSetStartedStoppedAndExpire := by
  refine ⟨fun s tag b b3 b4 b5 rest hs hb =>
      ⟨⟨_, exec_configureTimer hs, ?_⟩, ⟨_, exec_startTimer hs, ?_⟩, ⟨_, exec_stopTimer hs, ?_⟩⟩,
    fun s tag b b3 b4 b5 rest k hs hk =>
      ⟨⟨_, exec_configureTimer hs, ?_⟩, ⟨_, exec_startTimer hs, ?_⟩, ⟨_, exec_stopTimer hs, ?_⟩⟩,
    fun s k => ⟨_, rfl, ?_⟩⟩
  · rw [answerConfigureTimer_index (args := b :: b3 :: b4 :: b5 :: rest.take 2) hb]
    rfl
  · rw [answerStartTimer_index (args := b :: rest.take 5) hb]
    rfl
  · rw [answerStopTimer_index (args := b :: rest.take 5) hb]
    rfl
  · have hmode := asTimerMode_eq (b3.toNat % 4)
    rw [show b3.toNat % 4 = bitField b3 0 2 from (bitField_zero b3 2).symm] at hmode ⊢
    dsimp only
    by_cases hq : b3.getLsbD 7 = true
    · rw [if_pos hq, answerConfigureTimer_query (args := b :: b3 :: b4 :: b5 :: rest.take 2) hk hq]
      rfl
    · rw [if_neg hq]
      by_cases hm : 2 ≤ bitField b3 0 2
      · rw [if_pos hm] at hmode ⊢
        rw [answerConfigureTimer_value (args := b :: b3 :: b4 :: b5 :: rest.take 2) hk hq hmode]
        rfl
      · rw [if_neg hm] at hmode ⊢
        have hword : argWord (b :: b3 :: b4 :: b5 :: rest.take 2) 4 = 256 * b4.toNat + b5.toNat := by
          rw [Nat.mul_comm 256]
          rfl
        rw [answerConfigureTimer_written (args := b :: b3 :: b4 :: b5 :: rest.take 2) hk hq hmode]
        dsimp only
        rw [hword, TimerRec.configured_eq]
        by_cases hp : 256 * b4.toNat + b5.toNat = 0
        · simp only [if_pos hp]
          rfl
        · simp only [if_neg hp]
          rfl
  · rw [answerStartTimer_written (args := b :: rest.take 5) hk]
    rfl
  · rw [answerStopTimer_written (args := b :: rest.take 5) hk]
    rfl
  · beta_reduce
    rw [State.timersDueTo_eq]
    split <;> rfl

end

section
/-! The lines (O44): Configure Line writes a line and the sample period, and Read Lines reports the lines in their bits and
nibbles. -/

namespace Sys2Proof.Machine

open Sys2Proof.Claims

variable {s u : State} {l : LineIx} {args : List Byte}

/-! ### The codes of a line (R62, R178) -/

theorem asLine_val (l : LineIx) : asLine l.val = some l := by simp [asLine]

theorem asLine_of_le {n : Nat} (h : 16 ≤ n) : asLine n = none := by simp [asLine, Nat.not_lt.mpr h]

theorem asRole_of_lt {n : Nat} (h : 2 < n) : asRole n = none := by
  match n with
  | n + 3 => rfl

theorem asRole_of_le {n : Nat} (h : n ≤ 2) : ∃ role, asRole n = some role ∧ roleCode role = n := by
  interval_cases n <;> exact ⟨_, rfl, rfl⟩

theorem asEdge_of_out {n : Nat} (h : n = 0 ∨ 3 < n) : asEdge n = none := by
  match n with
  | 0 => rfl
  | n + 4 => rfl

theorem asEdge_of_in {n : Nat} (h : 1 ≤ n) (h' : n ≤ 3) : ∃ edge, asEdge n = some edge ∧ edgeCode edge = n := by
  interval_cases n <;> exact ⟨_, rfl, rfl⟩

/-! ### Configure Line (R62) -/

theorem exec_configureLine {tag b2 b3 b4 b5 : Byte} {rest : List Byte} (hs : Executes s) :
    exec (.configureLine tag (b2 :: b3 :: b4 :: b5 :: rest)) s = .next
      (answered (answerConfigureLine (b2 :: b3 :: b4 :: b5 :: rest.take 2) (taken s)).1
        (responseBytes 0x30 tag (answerConfigureLine (b2 :: b3 :: b4 :: b5 :: rest.take 2) (taken s)).2)) :=
  takeRequest_answered hs (by simp [frameArgs]) (fun _ => rfl)

theorem answerConfigureLine_index (h : 16 ≤ (argByte args 2).toNat) : answerConfigureLine args u = (u, .bare .index) := by
  rw [answerConfigureLine, asLine_of_le h]

theorem answerConfigureLine_value (hl : l.val = (argByte args 2).toNat)
    (h : 2 < (argByte args 3).toNat ∨ (argByte args 4).toNat = 0 ∨ 3 < (argByte args 4).toNat) :
    answerConfigureLine args u = (u, .bare .value) := by
  simp only [answerConfigureLine, ← hl, asLine_val]
  rcases h with hrole | hedge
  · rw [asRole_of_lt hrole]
  · rw [asEdge_of_out hedge]
    cases asRole (argByte args 3).toNat <;> rfl

theorem answerConfigureLine_written {role : LineRole} {edge : EdgeSelect} (hl : l.val = (argByte args 2).toNat)
    (hrole : asRole (argByte args 3).toNat = some role) (hedge : asEdge (argByte args 4).toNat = some edge) :
    answerConfigureLine args u =
      ({ u with
        lineUnit := LineUnit.withPeriod
          { u.lineUnit with lines := u.lineUnit.lines.set l { u.lineUnit.lines.get l with role := role, edge := edge } }
          (argByte args 5).toNat }, .bare .ok) := by
  simp only [answerConfigureLine, ← hl, asLine_val, hrole, hedge]
  rfl

/-- A sample period taken, with what remains of the running interval. -/
theorem LineUnit.withPeriod_eq (u : LineUnit) (b : Byte) :
    u.withPeriod b.toNat =
      { u with
        period := if b = 0 then u.period else b.toNat
        sampleLeft := if b = 0 then u.sampleLeft else b.toNat } := by
  have hzero : b.toNat = 0 ↔ b = 0 := BitVec.toNat_inj (y := 0)
  unfold LineUnit.withPeriod
  split
  · next h => rw [if_pos (hzero.mp h), if_pos (hzero.mp h)]
  · next h => rw [if_neg (fun hb => h (hzero.mpr hb)), if_neg (fun hb => h (hzero.mpr hb))]

/-! ### Sets of lines in two bytes (R178) -/

theorem foldl_bits (n : Nat) (f : Fin n → Bool) (c a : Nat) :
    (List.finRange n).foldl (fun acc l => acc + if f l = true then c * 2 ^ l.val else 0) a = a + c * Nat.ofBits f := by
  induction n generalizing c a with
  | zero => rfl
  | succ n ih =>
    have hstep : ∀ (acc : Nat) (l : Fin n), (acc + if f l.succ = true then c * 2 ^ l.succ.val else 0) =
        acc + if (f ∘ Fin.succ) l = true then c * 2 * 2 ^ l.val else 0 := fun acc l => by
      rw [Fin.val_succ, Nat.pow_succ, Nat.mul_comm (2 ^ l.val), Nat.mul_assoc]
      rfl
    rw [List.finRange_succ, List.foldl_cons, List.foldl_map]
    simp only [hstep]
    rw [ih, Nat.ofBits_succ]
    cases f 0 <;> simp <;> ring

theorem lineBits_eq (f : LineIx → Bool) : lineBits f = Nat.ofBits f := by
  simpa [lineBits] using foldl_bits 16 f 1 0

/-- The two bytes of a set of lines are those of a value that has a bit for each of its lines. -/
theorem lineBits_bytes (f : LineIx → Bool) :
    ∃ x : BitVec 16, (∀ l : LineIx, x.getLsbD l.val = f l) ∧ beBytes 2 (lineBits f) = two x.toNat := by
  refine ⟨BitVec.ofNat 16 (Nat.ofBits f), fun l => ?_, ?_⟩
  · rw [BitVec.getLsbD_ofNat, decide_eq_true l.isLt, Bool.true_and, Nat.testBit_ofBits_lt f l.val l.isLt]
  · rw [lineBits_eq, beBytes_two, BitVec.toNat_ofNat, Nat.mod_eq_of_lt (Nat.ofBits_lt_two_pow f)]

/-! ### Lines in their nibbles (R178) -/

theorem lineNibble_lt (r : LineRec) : lineNibble r < 16 := by
  unfold lineNibble
  cases r.role <;> cases r.edge <;> decide

theorem nibbleAt_val (u : LineUnit) (l : LineIx) : nibbleAt u l.val = lineNibble (u.lines.get l) := by
  rw [nibbleAt, asLine_val]

theorem nibbleAt_lt (u : LineUnit) (n : Nat) : nibbleAt u n < 16 := by
  unfold nibbleAt
  split
  · exact lineNibble_lt _
  · decide

theorem configBytes_toNat (u : LineUnit) (low : Nat) {k : Nat} (h : k < 4) :
    ((configBytes u low).getD k 0).toNat = nibbleAt u (low + 2 * k) + 16 * nibbleAt u (low + 2 * k + 1) := by
  have hbyte : (configBytes u low).getD k 0 =
      oneByte (nibbleAt u (low + 2 * k) + 16 * nibbleAt u (low + 2 * k + 1)) := by
    simp [configBytes, List.getD, h]
  have hlow := nibbleAt_lt u (low + 2 * k)
  have hhigh := nibbleAt_lt u (low + 2 * k + 1)
  rw [hbyte, toNat_oneByte (by omega)]

/-- The nibble of a line among the eight that begin with line `low`. -/
theorem configBytes_nibble (u : LineUnit) {low k : Nat} (h : k < 4) (hl : l.val = low + 2 * k + l.val % 2) :
    ((configBytes u low).getD k 0).toNat / 16 ^ (l.val % 2) % 16 =
      roleCode (u.lines.get l).role + 4 * edgeCode (u.lines.get l).edge := by
  have hlow := nibbleAt_lt u (low + 2 * k)
  have hhigh := nibbleAt_lt u (low + 2 * k + 1)
  have hval : nibbleAt u l.val = roleCode (u.lines.get l).role + 4 * edgeCode (u.lines.get l).edge := nibbleAt_val u l
  rw [configBytes_toNat u low h, ← hval]
  rcases Nat.mod_two_eq_zero_or_one l.val with hm | hm
  · rw [hm, Nat.add_zero] at hl
    rw [hm, hl, Nat.pow_zero]
    omega
  · rw [hm] at hl
    rw [hm, hl, Nat.pow_one]
    omega

end Sys2Proof.Machine

open Sys2Proof Sys2Proof.Machine Sys2Proof.Claims

/-- Settles O44, by the checks of Configure Line and by the part that Read Lines names. -/
theorem lineRequestsWriteAndReportTheLines : Obligations.LineRequestsWriteAndReportTheLines := by
  refine ⟨fun s tag b2 b3 b4 b5 rest hs => ⟨_, exec_configureLine hs, ?_⟩, fun s tag b rest hs =>
    ⟨_, takeRequest_answered hs (by simp [frameArgs]) (fun _ => rfl), ?_⟩⟩
  · beta_reduce
    by_cases hindex : 16 ≤ b2.toNat
    · rw [if_pos hindex, answerConfigureLine_index (args := b2 :: b3 :: b4 :: b5 :: rest.take 2) hindex]
      rfl
    · rw [if_neg hindex]
      obtain ⟨l, hl⟩ : ∃ l : LineIx, l.val = b2.toNat := ⟨⟨b2.toNat, Nat.not_le.mp hindex⟩, rfl⟩
      by_cases hvalue : 2 < b3.toNat ∨ b4.toNat = 0 ∨ 3 < b4.toNat
      · rw [if_pos hvalue, answerConfigureLine_value (args := b2 :: b3 :: b4 :: b5 :: rest.take 2) hl hvalue]
        rfl
      · rw [if_neg hvalue]
        obtain ⟨role, hrole, hrolecode⟩ := asRole_of_le (n := b3.toNat) (by omega)
        obtain ⟨edge, hedge, hedgecode⟩ := asEdge_of_in (n := b4.toNat) (by omega) (by omega)
        refine ⟨l, role, edge, if b5 = 0 then s.lineUnit.sampleLeft else b5.toNat, hl, hrolecode, hedgecode,
          fun h => if_pos h, fun h _ => if_neg h, ?_⟩
        rw [answerConfigureLine_written (args := b2 :: b3 :: b4 :: b5 :: rest.take 2) hl hrole hedge,
          show argByte (b2 :: b3 :: b4 :: b5 :: rest.take 2) 5 = b5 from rfl, LineUnit.withPeriod_eq]
        rfl
  · rw [answerReadLines, show argByte (frameArgs (b :: rest)) 2 = b from rfl]
    dsimp only
    generalize b.toNat = n
    match n with
    | 0 =>
      obtain ⟨levels, hlevels, hbytes⟩ := lineBits_bytes (fun l => (s.lineUnit.lines.get l).level == some true)
      obtain ⟨unknown, hunknown, hbytes'⟩ := lineBits_bytes (fun l => (s.lineUnit.lines.get l).level == none)
      refine ⟨levels, unknown, fun l => ⟨hlevels l, hunknown l⟩, ?_⟩
      rw [← hbytes, ← hbytes']
      rfl
    | 1 =>
      obtain ⟨changes, hchanges, hbytes⟩ := lineBits_bytes (fun l => (s.lineUnit.lines.get l).change)
      obtain ⟨overruns, hoverruns, hbytes'⟩ := lineBits_bytes (fun l => (s.lineUnit.lines.get l).overrun)
      refine ⟨changes, overruns, fun l => ⟨hchanges l, hoverruns l⟩, ?_⟩
      rw [List.append_assoc, ← hbytes, ← hbytes']
      rfl
    | 2 =>
      exact ⟨configBytes s.lineUnit 0, rfl, rfl, fun l hl => configBytes_nibble _ (by omega) (by omega)⟩
    | 3 =>
      exact ⟨configBytes s.lineUnit 8, rfl, rfl, fun l hl => configBytes_nibble _ (by omega) (by omega)⟩
    | n + 4 => rfl

end

section
/-! Sheddings: what a change of the tier does to the domains that the new tier does not serve (R97, R125, R127). -/

namespace Sys2Proof.Machine

open Sys2Proof.Claims

variable {s u : State} {d e : Domain}

/-! ### One domain shed (R97, R127) -/

theorem State.shedDomain_dom_ne (s : State) (h : e ≠ d) : (s.shedDomain d).dom e = s.dom e := by
  unfold State.shedDomain
  split
  · exact s.enterWinding_dom_ne h _
  · exact s.switchOff_dom_ne h _ _
  · exact s.switchOff_dom_ne h _ _
  · rfl

theorem State.shedDomain_holder_ne (s : State) (h : e ≠ d) :
    (s.shedDomain d).slots.holders.get e = s.slots.holders.get e := by
  have hoff : (s.switchOff d .asleep DomainRec.stopReady).slots.holders.get e = s.slots.holders.get e := by
    rw [State.switchOff_slots]
    exact Tab.get_set_ne _ _ h
  unfold State.shedDomain
  split
  · rw [State.enterWinding_slots]
  · exact hoff
  · exact hoff
  · rfl

theorem State.shedOne_dom_ne (s : State) (h : e ≠ d) : (s.shedOne d).dom e = s.dom e := by
  unfold State.shedOne
  split
  · exact State.shedDomain_dom_ne _ h
  · rfl

theorem State.shedOne_holder_ne (s : State) (h : e ≠ d) : (s.shedOne d).slots.holders.get e = s.slots.holders.get e := by
  unfold State.shedOne
  split
  · exact State.shedDomain_holder_ne _ h
  · rfl

/-- The domains of a shedding hold a class, and are AWAKE, QUEUED or POWERING. -/
theorem shedBy_iff {t : Tier} : shedBy s t d = true ↔
    ((s.dom d).state = .awake ∨ (s.dom d).state = .queued ∨ (s.dom d).state = .powering) ∧
      ∃ c, (s.dom d).wakeClass = some c ∧ 3 < c.val + depth t := by
  rw [shedBy]
  cases (s.dom d).wakeClass <;> simp [or_assoc]

theorem DomainRec.selectedBy_eq (s : State) (t : Tier) (d : Domain) : (s.dom d).selectedBy t = shedBy s t d := by
  have hadmits : ∀ c : WakeClass, (!t.admits c) = decide (3 < c.val + depth t) := fun c => by
    rw [Tier.admits, ← decide_not, decide_eq_decide, Nat.not_le]
    cases t <;> rfl
  rw [DomainRec.selectedBy, shedBy]
  simp only [hadmits]
  cases (s.dom d).state <;> rfl

/-- What the Domain Controller makes of a domain that is shed (R97). -/
theorem State.shedDomain_self (h : (s.dom d).state = .awake ∨ (s.dom d).state = .queued ∨ (s.dom d).state = .powering) :
    ((s.shedDomain d).dom d).state = shedState (s.dom d).state ∧
      ((s.dom d).state = .awake → ((s.shedDomain d).dom d).sleepReason = some .shed) ∧
      ((s.dom d).state ≠ .awake →
        ((s.shedDomain d).dom d).wakeClass = none ∧ (s.shedDomain d).slots.holders.get d = none) := by
  by_cases ha : (s.dom d).state = .awake
  · have hshed : s.shedDomain d = s.enterWinding d .shed := by rw [State.shedDomain, ha]
    obtain ⟨n, w, hwound⟩ := s.enterWinding_dom_self d .shed
    rw [hshed, hwound, ha]
    exact ⟨rfl, fun _ => rfl, fun h => absurd rfl h⟩
  · have hshed : s.shedDomain d = s.switchOff d .asleep DomainRec.stopReady ∧ shedState (s.dom d).state = .asleep := by
      rw [State.shedDomain]
      rcases h.resolve_left ha with h | h <;> rw [h] <;> exact ⟨rfl, rfl⟩
    obtain ⟨n, hoff⟩ := s.switchOff_dom_self d (st := .asleep) (.inl rfl) DomainRec.stopReady
    rw [hshed.1, hshed.2, hoff]
    exact ⟨rfl, fun h => absurd h ha, fun _ => ⟨rfl, s.switchOff_holder d _ _⟩⟩

theorem State.shedOne_self {t : Tier} (h : shedBy s t d = true) :
    ((s.shedOne d).dom d).state = shedState (s.dom d).state ∧
      ((s.dom d).state = .awake → ((s.shedOne d).dom d).sleepReason = some .shed) ∧
      ((s.dom d).state ≠ .awake → ((s.shedOne d).dom d).wakeClass = none ∧ (s.shedOne d).slots.holders.get d = none) := by
  obtain ⟨hstate, c, hclass, -⟩ := shedBy_iff.mp h
  have hone : s.shedOne d = (s.writeCause d .budget c .shed none).shedDomain d := by rw [State.shedOne, hclass]
  rw [hone]
  exact State.shedDomain_self (s := s.writeCause d .budget c .shed none) hstate

/-! ### A shedding (R127) -/

/-- The BUDGET record of a domain (R138). -/
def budgetRecord (s : State) (d : Domain) : CauseRecord where
  second := s.management.clock
  domain := d
  cause := .budget
  cls := (s.dom d).wakeClass.getD 0
  outcome := .shed
  buffer := none

theorem shedRecords_eq (s : State) (t : Tier) :
    shedRecords s s.management.clock t = (domainsWhere (shedBy s t)).map (budgetRecord s) := rfl

theorem State.shedOne_causes {c : WakeClass} (h : (s.dom d).wakeClass = some c) :
    (s.shedOne d).causes = recorded s.causes [budgetRecord s d] := by
  rw [State.shedOne, h]
  dsimp only
  rw [State.shedDomain_causes, State.writeCause_eq_noted, noted, budgetRecord, h]
  rfl

/-- The records of a pass over domains that hold a class. -/
theorem State.foldl_shedOne_causes (l : List Domain) (hl : l.Nodup) (s : State)
    (hclass : ∀ d ∈ l, ∃ c, (s.dom d).wakeClass = some c) :
    (l.foldl State.shedOne s).causes = recorded s.causes (l.map (budgetRecord s)) := by
  induction l generalizing s with
  | nil => rfl
  | cons d l ih =>
    obtain ⟨hd, hl⟩ := List.nodup_cons.mp hl
    have hdom : ∀ e ∈ l, (s.shedOne d).dom e = s.dom e := fun e he =>
      s.shedOne_dom_ne (fun hed => hd (hed ▸ he))
    have hrecord : ∀ e ∈ l, budgetRecord (s.shedOne d) e = budgetRecord s e := fun e he => by
      rw [budgetRecord, hdom e he, State.management_of_fixed (s.shedOne_fixed d), budgetRecord]
    obtain ⟨c, hc⟩ := hclass d List.mem_cons_self
    rw [List.foldl_cons, ih hl (s.shedOne d) (fun e he => by
        rw [hdom e he]
        exact hclass e (List.mem_cons_of_mem d he)),
      State.shedOne_causes hc, List.map_congr_left hrecord, ← recorded_append]
    rfl

theorem State.shed_causes (s : State) :
    s.shed.causes = recorded s.causes (shedRecords s s.management.clock s.account.tier) := by
  have hselection : s.selection = domainsWhere (shedBy s s.account.tier) :=
    List.filter_congr (fun d _ => DomainRec.selectedBy_eq s _ d)
  rw [State.shed, hselection, shedRecords_eq]
  refine State.foldl_shedOne_causes _ ((List.nodup_finRange 12).filter _) s (fun d hd => ?_)
  obtain ⟨-, c, hc, -⟩ := shedBy_iff.mp (List.mem_filter.mp hd).2
  exact ⟨c, hc⟩

/-- Each domain of a shedding is shed as it stood before, and no other domain is touched. -/
theorem State.shed_dom (s : State) (d : Domain) :
    ∃ u : State, u.dom d = s.dom d ∧
      (s.shed.dom d, s.shed.slots.holders.get d) =
        if shedBy s s.account.tier d = true then ((u.shedOne d).dom d, (u.shedOne d).slots.holders.get d)
        else (s.dom d, s.slots.holders.get d) := by
  have hpass : s.shed =
      s.eachDomain (fun u e => if (s.dom e).selectedBy s.account.tier = true then u.shedOne e else u) := List.foldl_filter
  obtain ⟨u, hbefore, hafter⟩ := State.eachDomain_at (fun u => (u.dom d, u.slots.holders.get d)) (d := d)
    (f := fun u e => if (s.dom e).selectedBy s.account.tier = true then u.shedOne e else u)
    (fun u e he => State.ite_keeps (fun u => (u.dom d, u.slots.holders.get d))
      (Prod.ext (u.shedOne_dom_ne he.symm) (u.shedOne_holder_ne he.symm)) rfl) s
  refine ⟨u, (Prod.mk.inj hbefore).1, ?_⟩
  rw [hpass, hafter, ← DomainRec.selectedBy_eq]
  split
  · rfl
  · exact hbefore

theorem depth_eq (t : Tier) : t.depth = depth t := by cases t <;> rfl

/-- The tier recomputed on a changed account, in the claims' words (R97, R125, R127). -/
theorem State.retier_retiered {a : Account} (h : a.tier = s.account.tier) :
    Retiered s s.management.clock { a with tier := a.prescribedTier } ({ s with account := a } : State).retier := by
  refine ⟨State.retier_account _, fun hup => ?_, fun hdown => ?_⟩
  · rw [← depth_eq, ← depth_eq, ← h] at hup
    exact if_neg (Nat.not_lt.mpr hup)
  · rw [← depth_eq, ← depth_eq, ← h] at hdown
    obtain ⟨t, ht⟩ : ∃ t : State, { s with account := { a with tier := a.prescribedTier } } = t := ⟨_, rfl⟩
    have hretier : ({ s with account := a } : State).retier = t.shed := ht ▸ if_pos hdown
    have htier : t.account.tier = a.prescribedTier := ht ▸ rfl
    have hdom : ∀ d, t.dom d = s.dom d := fun d => ht ▸ rfl
    have hshedBy : shedBy t a.prescribedTier = shedBy s a.prescribedTier := ht ▸ rfl
    have hfixed := t.shed_fixed
    rw [hretier]
    refine ⟨fun d => ?_, ?_, (State.management_of_fixed hfixed).trans (ht ▸ rfl),
      (State.engine_of_fixed hfixed).trans (ht ▸ rfl),
      (State.lineUnit_of_fixed hfixed).trans (ht ▸ rfl), (State.timerUnit_of_fixed hfixed).trans (ht ▸ rfl)⟩
    · obtain ⟨u, hu, hshed⟩ := t.shed_dom d
      rw [hdom] at hu
      rw [htier, hshedBy] at hshed
      dsimp only
      by_cases hd : shedBy s a.prescribedTier d = true
      · rw [if_pos hd] at hshed ⊢
        obtain ⟨hdomain, hholder⟩ := Prod.mk.inj hshed
        have hself := State.shedOne_self (s := u) (t := a.prescribedTier) (d := d) (by rw [shedBy, hu]; exact hd)
        rw [hu, ← hdomain, ← hholder] at hself
        obtain ⟨hstate, hreason, hoff⟩ := hself
        exact ⟨hstate, fun _ => hreason, fun _ => hoff⟩
      · rw [if_neg hd] at hshed ⊢
        rw [(Prod.mk.inj hshed).1, hdom]
        exact ⟨rfl, fun h => absurd h hd, fun h => absurd h hd⟩
    · rw [State.shed_causes, htier, ← ht]
      rfl

end Sys2Proof.Machine

end

section
/-! The park second (O60): what it counts, the draw that it adds in PARK, and the refills that are due after it. -/

namespace Sys2Proof.Machine

open Sys2Proof.Claims

variable {s : State} {d e : Domain}

/-! ### What a park second counts (R65, R84, R166) -/

theorem DomainRec.second_eq_aged (r : DomainRec) : r.second = aged r := by
  refine if_congr Iff.rfl ?_ rfl
  cases r.idleTimer <;> rfl

theorem Tab.map_eq_ofFn {α β : Type} {n : Nat} (f : α → β) (t : Tab α n) : t.map f = Tab.ofFn (fun i => f (t.get i)) :=
  Tab.ext_get (fun i => by rw [Tab.get_map, Tab.get_ofFn])

theorem State.secondFalls_eq_fallen (s : State) : s.secondFalls = fallen s := by
  have hdomains : s.domains.map DomainRec.second = Tab.ofFn (fun d => aged (s.dom d)) := by
    rw [Tab.map_eq_ofFn]
    exact congrArg Tab.ofFn (funext (fun d => (s.dom d).second_eq_aged))
  rw [State.secondFalls, hdomains, fallen]
  rfl

theorem fallen_dom (s : State) (d : Domain) : (fallen s).dom d = aged (s.dom d) := Tab.get_ofFn _ _

/-! ### The draw of a second (R122) -/

theorem Tab.items_eq_map {α : Type} {n : Nat} (t : Tab α n) : t.items = (List.finRange n).map t.get :=
  List.ext_getElem (by rw [t.size_eq, List.length_map, List.length_finRange]) (fun i h h' => by
    rw [List.getElem_map, List.getElem_finRange]
    rfl)

theorem aged_draw (r : DomainRec) : (aged r).draw = r.draw := by
  unfold aged
  split <;> rfl

theorem DomainRec.draw_eq (r : DomainRec) :
    r.draw = if r.state = .powering ∨ r.state = .awake ∨ r.state = .winding then 1000 * r.params.awakeCurrent
      else 10 * r.params.sleepCurrent :=
  if_congr (by cases r.state <;> decide) rfl rfl

/-- The draw of a park second does not depend on what the second has counted. -/
theorem State.draw_fallen (s : State) : (fallen s).draw = drawOf s := by
  have hdraw : ((fallen s).domains.items.map DomainRec.draw) = (List.finRange 12).map (fun d => (s.dom d).draw) := by
    rw [Tab.items_eq_map, List.map_map]
    exact List.map_congr_left (fun d _ => (congrArg DomainRec.draw (fallen_dom s d)).trans (aged_draw _))
  rw [State.draw, hdraw, drawOf]
  simp only [DomainRec.draw_eq]
  rfl

/-! ### The tier in PARK (R122, R124, R125, R134) -/

theorem Account.prescribedTier_eq (a : Account) :
    a.prescribedTier = tierFor (3600000 * a.budget - a.spent) (3600000 * a.budget) a.upper a.lower := rfl

/-- The account of a park second in PARK, before the tier. -/
def charged (s : State) : Account :=
  { s.account.addCharge (drawOf s) with tokens := s.account.tokens.map TokenRec.second }

theorem charged_eq (s : State) : charged s = { s.account with
    spent := min (2 ^ 48 - 1) (s.account.spent + drawOf s)
    tokens := s.account.tokens.map (fun k : TokenRec => { k with countdown := k.countdown.map (fun n => n - 1) }) } := by
  rw [charged, Account.addCharge]
  rfl

theorem charged_tier (s : State) : (charged s).tier = s.account.tier := by rw [charged_eq]

theorem State.accountSecond_fallen (s : State) :
    (fallen s).accountSecond = ({ fallen s with account := charged s } : State).retier := by
  rw [State.accountSecond, State.draw_fallen]
  rfl

theorem State.second_of_run (h : s.mode = .run) : s.second = fallen s := by
  rw [State.second, h, ← State.secondFalls_eq_fallen]

/-- A park second in PARK, in the claims' words. -/
theorem State.second_of_park (h : s.mode = .park) :
    Retiered (fallen s) (s.management.clock + 1) { charged s with tier := (charged s).prescribedTier } s.second := by
  rw [State.second, h, State.secondFalls_eq_fallen]
  dsimp only
  rw [State.accountSecond_fallen]
  exact State.retier_retiered (s := fallen s) (a := charged s) (charged_tier s)

theorem Mode.eq_park_of_ne_run {m : Mode} (h : m ≠ .run) : m = .park := by
  cases m
  · exact absurd rfl h
  · rfl

/-! ### The refills that are due (R134) -/

/-- The refills that are due up to a domain as a pass over all domains. -/
theorem State.refillsDueTo_pass (h : (s.tokens d).countdown = some 0) :
    s.refillsDueTo d = s.eachDomain (fun u e => if decide (e ≤ d) = true then u.refillDue e else u) := by
  rw [State.refillsDueTo, if_pos h]
  exact List.foldl_filter

/-- The tokens of each domain after the refills that are due up to a domain. -/
theorem State.refillsDueTo_tokens (h : (s.tokens d).countdown = some 0) (hpark : s.mode = .park) (e : Domain) :
    (s.refillsDueTo d).tokens e =
      if e ≤ d ∧ (s.tokens e).countdown = some 0 then
        (s.tokens e).refilled (s.dom e).params.tokenCap (s.dom e).params.refill
      else s.tokens e := by
  obtain ⟨u, hbefore, hafter⟩ := State.eachDomain_at (fun u => (u.tokens e, u.mode, u.domains)) (d := e)
    (f := fun u e => if decide (e ≤ d) = true then u.refillDue e else u)
    (fun u i hi => State.ite_keeps (fun u => (u.tokens e, u.mode, u.domains))
      (by simp [State.refillDue_tokens, hi.symm, State.mode_of_fixed (u.refillDue_fixed i)]) rfl) s
  obtain ⟨htokens, hrest⟩ := Prod.mk.inj hbefore
  obtain ⟨hmode, hdomains⟩ := Prod.mk.inj hrest
  rw [State.refillsDueTo_pass h, (Prod.mk.inj hafter).1]
  by_cases he : e ≤ d
  · rw [if_pos (decide_eq_true he), State.refillDue_tokens, htokens, hmode, State.dom_of_domains hdomains]
    simp [he, hpark]
  · rw [if_neg (by simpa using he), htokens, if_neg (fun h => he h.1)]

theorem State.refillsDueTo_of_run (h : s.mode = .run) (d : Domain) : s.refillsDueTo d = s := by
  have hpass : ∀ (l : List Domain) (u : State), u.mode = .run → l.foldl State.refillDue u = u := fun l u hu =>
    List.foldl_fixed' (fun e => u.refillDue_of_run e hu) l
  unfold State.refillsDueTo
  split
  · exact hpass _ s h
  · rfl

end Sys2Proof.Machine

open Sys2Proof Sys2Proof.Machine Sys2Proof.Claims

/-- Settles O60, by the mode; what is still due is taken first, and a refill expires in PARK alone. -/
theorem parkSecondsCountAndCharge : Obligations.ParkSecondsCountAndCharge := by
  refine ⟨fun s => ⟨_, rfl, ?_⟩, fun s d => ⟨_, rfl, ?_⟩⟩
  · have hmanagement := s.takeDue_management
    rw [← settled_eq_takeDue] at hmanagement ⊢
    have hmode : (settled s).mode = s.mode := congrArg Management.mode hmanagement
    generalize settled s = z at hmanagement hmode ⊢
    dsimp only
    by_cases hrun : s.mode = .run
    · rw [if_pos hrun, State.second_of_run (hmode.trans hrun)]
    · have hretiered := State.second_of_park (hmode.trans (Mode.eq_park_of_ne_run hrun))
      rw [Account.prescribedTier_eq, charged_eq, hmanagement] at hretiered
      rw [if_neg hrun]
      exact hretiered
  · dsimp only
    by_cases hdue : s.mode = .park ∧ (s.account.tokens.get d).countdown = some 0
    · obtain ⟨hpark, hzero⟩ := hdue
      obtain ⟨k, hk⟩ := s.refillsDueTo_frame d
      rw [if_pos ⟨hpark, hzero⟩, hk]
      refine congrArg (fun k => ({ s with account := { s.account with tokens := k } } : State)) (Tab.ext_get (fun e => ?_))
      have htokens := State.refillsDueTo_tokens hzero hpark e
      rw [hk] at htokens
      rw [Tab.get_ofFn]
      exact htokens
    · rw [if_neg hdue]
      by_cases hpark : s.mode = .park
      · exact s.refillsDueTo_of_ne (fun hzero => hdue ⟨hpark, hzero⟩)
      · refine State.refillsDueTo_of_run ?_ d
        cases hm : s.mode
        · rfl
        · exact absurd hm hpark

end

section
/-! The Park Exit (R115 to R117): what it leaves of each block, and the round of EXIT wakes that it makes. -/

namespace Sys2Proof.Machine

open Sys2Proof.Claims

variable {s u : State} {d : Domain}

/-! ### Before the wakes (R116) -/

/-- The state in which the wakes of a Park Exit are made: the mode is RUN, the ports follow it, and the Capture Store is told. -/
def State.unparked (s : State) : State :=
  ({ s with management := { s.management with mode := .run } } : State).rederiveAll.captureParkExit

theorem State.parkExit_eq (s : State) : s.parkExit = s.unparked.eachDomain State.exitWake := rfl

theorem State.unparked_fixed (s : State) :
    s.unparked.fixed = ({ s with management := { s.management with mode := .run } } : State).fixed := by
  rw [State.unparked, State.captureParkExit_fixed, State.rederiveAll_fixed]

theorem State.unparked_management (s : State) : s.unparked.management = { s.management with mode := .run } :=
  State.management_of_fixed (s := { s with management := { s.management with mode := .run } }) s.unparked_fixed

theorem State.unparked_mode (s : State) : s.unparked.mode = .run := State.mode_of_fixed s.unparked_fixed

theorem State.unparked_dom (s : State) (d : Domain) : s.unparked.dom d = s.dom d :=
  State.dom_of_domains ((State.captureParkExit_domains _).trans (State.rederiveAll_domains _)) d

theorem State.unparked_causes (s : State) : s.unparked.causes = s.causes := by
  rw [State.unparked, State.captureParkExit_causes, State.rederiveAll,
    State.foldl_keeps State.causes _ (fun t p => t.rederive_causes p)]

theorem State.unparked_account (s : State) : s.unparked.account = s.account := by
  rw [State.unparked, State.captureParkExit_account, State.rederiveAll,
    State.foldl_keeps State.account _ (fun t p => t.rederive_account p)]

theorem State.unparked_follows (s : State) : s.unparked.PortsFollow := fun p => by
  have hport : ∀ t : State, t.captureParkExit.port p = t.port p := fun t => by
    rw [State.port, State.captureParkExit_ports, State.port]
  have hdom : ∀ (t : State) (e : Domain), t.captureParkExit.dom e = t.dom e := fun t =>
    State.dom_of_domains t.captureParkExit_domains
  rw [State.unparked, hport, State.rederiveAll_follows _ p]
  exact (State.derivedActive_same (fun e => congrArg (fun r => r.params.port) (hdom _ e))
    (fun e => congrArg (fun r => r.state.activates) (hdom _ e)) (State.mode_of_fixed (State.captureParkExit_fixed _)) p).symm

/-! ### The EXIT wakes (R117) -/

/-- A domain that a Park Exit wakes: it is enabled, and ASLEEP or WINDING. -/
def exits (s : State) (d : Domain) : Bool :=
  (s.dom d).params.enabled && ((s.dom d).state == .asleep || (s.dom d).state == .winding)

theorem exits_iff : exits s d = true ↔
    (s.dom d).params.enabled = true ∧ ((s.dom d).state = .asleep ∨ (s.dom d).state = .winding) := by
  rw [exits, Bool.and_eq_true, Bool.or_eq_true, beq_iff_eq, beq_iff_eq]

theorem exits_congr (h : u.claimant d = s.claimant d) : exits u d = exits s d := by
  obtain ⟨hparams, hstate, -, -⟩ := State.claimant_eq_iff.mp h
  rw [exits, hparams, hstate, exits]

theorem State.exits_unparked (s : State) (d : Domain) : exits s.unparked d = exits s d := by rw [exits, s.unparked_dom, exits]

/-- The EXIT wakes as one request of class 0 for each domain of a set. -/
def State.exitRequest (q : Domain → Bool) : State → Domain → State := State.request q (fun _ => 0) (fun _ => .exit)

/-- Each domain is asked for its wake as it stood before the pass: no wake touches another domain. -/
theorem State.foldl_exitWake (l : List Domain) (hl : l.Nodup) {q : Domain → Bool} (s : State)
    (hq : ∀ d ∈ l, exits s d = q d) : l.foldl State.exitWake s = l.foldl (State.exitRequest q) s := by
  induction l generalizing s with
  | nil => rfl
  | cons d l ih =>
    obtain ⟨hd, hl⟩ := List.nodup_cons.mp hl
    have hwake : s.exitWake d = s.exitRequest q d :=
      if_congr (by rw [← hq d List.mem_cons_self, exits_iff]) rfl rfl
    rw [List.foldl_cons, List.foldl_cons, hwake]
    refine ih hl _ (fun e he => ?_)
    have hed : e ≠ d := fun h => hd (h ▸ he)
    rw [← hq e (List.mem_cons_of_mem d he)]
    exact exits_congr (s.request_claimant_ne _ _ _ hed)

theorem State.parkExit_round (s : State) : s.parkExit = s.unparked.eachDomain (State.exitRequest (exits s)) := by
  rw [State.parkExit_eq]
  exact State.foldl_exitWake _ (List.nodup_finRange 12) s.unparked (fun d _ => s.exits_unparked d)

/-- In RUN a request of an enabled domain that is ASLEEP or WINDING is admitted (R131). -/
theorem outcomeOf_exit (hrun : u.mode = .run) (h : exits u d = true) (c : WakeClass) : outcomeOf u d c = .admitted := by
  obtain ⟨henabled, hstate⟩ := exits_iff.mp h
  have hrun : u.management.mode = .run := hrun
  unfold outcomeOf
  rcases hstate with hst | hst <;> simp [henabled, hst, hrun]

/-- A request of class 0 takes no token (R135). -/
theorem State.exitRequest_account (q : Domain → Bool) (s : State) (d : Domain) : (s.exitRequest q d).account = s.account := by
  have hsettled : ∀ o, (s.settleAdmission d 0 .exit o).account = s.account := fun o => by
    have hconsumes : s.consumes 0 o = false := by simp [State.consumes]
    simp only [State.settleAdmission, hconsumes, Bool.false_eq_true, if_false]
    exact State.ite_keeps State.account (s.trigger_account d .exit) rfl
  refine State.ite_keeps State.account ?_ rfl
  rw [State.wakeRequest, State.actOn_account, State.writeCause_account, hsettled]

/-! ### The Park Exit, block by block -/

theorem State.parkExit_fixed (s : State) :
    s.parkExit.fixed = ({ s with management := { s.management with mode := .run } } : State).fixed := by
  rw [State.parkExit_round, State.exitRequest, State.round_fixed, State.unparked_fixed]

theorem State.parkExit_account (s : State) : s.parkExit.account = s.account := by
  rw [State.parkExit_round, State.eachDomain_keeps State.account _ (State.exitRequest_account _), State.unparked_account]

/-- The states of the domains after a Park Exit. -/
theorem State.parkExit_state (s : State) (d : Domain) :
    (s.parkExit.dom d).state =
      if (s.dom d).params.enabled = true ∧ (s.dom d).state = .asleep then .queued
      else if (s.dom d).params.enabled = true ∧ (s.dom d).state = .winding then .awake
      else (s.dom d).state := by
  have hround := congrArg Prod.fst (State.round_dom (exits s) (fun _ => 0) (fun _ => .exit) s.unparked d)
  rw [State.parkExit_round, State.exitRequest]
  refine hround.trans ?_
  by_cases h : exits s d = true
  · rw [if_pos h, afterRequest, outcomeOf_exit s.unparked_mode ((s.exits_unparked d).trans h), s.unparked_dom]
    obtain ⟨henabled, hstate⟩ := exits_iff.mp h
    rcases hstate with hst | hst <;> simp [henabled, hst]
  · rw [if_neg h, s.unparked_dom]
    rw [exits_iff, and_or_left, not_or] at h
    obtain ⟨hasleep, hwinding⟩ := h
    rw [if_neg hasleep, if_neg hwinding]

/-- The cause records of a Park Exit. -/
theorem State.parkExit_causes (s : State) :
    s.parkExit.causes = recorded s.causes ((domainsWhere (exits s)).map (fun d =>
      { second := s.management.clock, domain := d, cause := .exit, cls := 0, outcome := .admitted, buffer := none })) := by
  rw [State.parkExit_round, State.exitRequest, State.round_causes, State.unparked_causes, requestRecords,
    State.unparked_management]
  refine congrArg (recorded s.causes) (List.map_congr_left (fun d hd => ?_))
  have hexits : exits s.unparked d = true := (s.exits_unparked d).trans (List.mem_filter.mp hd).2
  rw [outcomeOf_exit s.unparked_mode hexits, bufferNamed, s.unparked_mode]
  rfl

/-- After a Park Exit B is ACTIVE, as it is in RUN (R5). -/
theorem State.parkExit_active (s : State) : (s.parkExit.port Port.B).active = true := by
  have hwakes : s.unparked.Wakes (s.unparked.eachDomain (State.exitRequest (exits s))) :=
    .foldl (fun t e ht => by
      unfold State.exitRequest State.request
      split
      · exact .wakeRequest ht e 0 .exit
      · exact .refl ht) _ s.unparked_follows
  have hrun : s.parkExit.mode = .run := State.mode_of_fixed s.parkExit_fixed
  rw [← State.parkExit_round] at hwakes
  rw [hwakes.follow, State.derivedActive, if_pos rfl, hrun]
  rfl

end Sys2Proof.Machine

end

section
/-! The sample (O59): every line is debounced in line order, and the first IGNITION line that calls for it ends the park. -/

namespace Sys2Proof.Machine

open Sys2Proof.Claims

variable {s u : State} {i j l : LineIx} {levels : BitVec 16}

/-! ### One line in the Line Unit (R58 to R60) -/

/-- The Line Unit after the sample of one line: the line is debounced, and its event, if it makes one, is appended or lost. -/
def LineUnit.takeLine (levels : BitVec 16) (event : LineIx → Bool) (record : LineIx → FrameRecord) (u : LineUnit)
    (l : LineIx) : LineUnit :=
  let full := decide (16 ≤ u.queue.length)
  { u with
    queue := if event l && !full then u.queue ++ [record l] else u.queue
    lines := u.lines.set l
      { (u.lines.get l).sampled (levels.getLsbD l.val) with overrun := (u.lines.get l).overrun || (event l && full) } }

section
variable {event : LineIx → Bool} {record : LineIx → FrameRecord} {x : LineUnit}

theorem LineUnit.takeLine_silent (h : event l = false) : x.takeLine levels event record l =
    { x with lines := x.lines.set l ((x.lines.get l).sampled (levels.getLsbD l.val)) } := by
  simp [LineUnit.takeLine, h, LineRec.sampled]

theorem LineUnit.takeLine_kept (h : event l = true) (hroom : x.queue.length < 16) : x.takeLine levels event record l =
    { x with
      queue := x.queue ++ [record l]
      lines := x.lines.set l ((x.lines.get l).sampled (levels.getLsbD l.val)) } := by
  simp [LineUnit.takeLine, h, Nat.not_le.mpr hroom, LineRec.sampled]

theorem LineUnit.takeLine_lost (h : event l = true) (hfull : 16 ≤ x.queue.length) : x.takeLine levels event record l =
    { x with
      lines := x.lines.set l { (x.lines.get l).sampled (levels.getLsbD l.val) with overrun := true } } := by
  simp [LineUnit.takeLine, h, hfull]

theorem LineUnit.takeLine_congr {event' : LineIx → Bool} {record' : LineIx → FrameRecord} (he : event' l = event l)
    (hr : record' l = record l) : x.takeLine levels event' record' l = x.takeLine levels event record l := by
  rw [LineUnit.takeLine, he, hr, LineUnit.takeLine]

theorem LineUnit.takeLine_get_ne (h : j ≠ l) : (x.takeLine levels event record l).lines.get j = x.lines.get j :=
  Tab.get_set_ne _ _ h

theorem LineUnit.foldl_takeLine_period (ls : List LineIx) (x : LineUnit) :
    (ls.foldl (LineUnit.takeLine levels event record) x).period = x.period := by
  induction ls generalizing x with
  | nil => rfl
  | cons l ls ih => exact ih (x.takeLine levels event record l)

/-- A line that a pass does not come to. -/
theorem LineUnit.foldl_takeLine_get_out (ls : List LineIx) (x : LineUnit) (hj : j ∉ ls) :
    (ls.foldl (LineUnit.takeLine levels event record) x).lines.get j = x.lines.get j := by
  induction ls generalizing x with
  | nil => rfl
  | cons l ls ih =>
    obtain ⟨hjl, hjls⟩ := List.ne_and_not_mem_of_not_mem_cons hj
    exact (ih (x.takeLine levels event record l) hjls).trans (LineUnit.takeLine_get_ne hjl)

/-- The events of a pass: as many as there is room for are appended, and the others are lost. -/
theorem LineUnit.foldl_takeLine_queue (ls : List LineIx) (x : LineUnit) :
    (ls.foldl (LineUnit.takeLine levels event record) x).queue =
      x.queue ++ ((ls.filter event).take (16 - x.queue.length)).map record := by
  induction ls generalizing x with
  | nil => simp
  | cons l ls ih =>
    rw [List.foldl_cons, ih]
    by_cases he : event l = true
    · rw [List.filter_cons_of_pos he]
      by_cases hroom : x.queue.length < 16
      · rw [LineUnit.takeLine_kept he hroom, show 16 - x.queue.length = (16 - (x.queue.length + 1)) + 1 by omega]
        simp
      · rw [LineUnit.takeLine_lost he (Nat.not_lt.mp hroom), show 16 - x.queue.length = 0 by omega]
        simp
    · rw [List.filter_cons_of_neg he, LineUnit.takeLine_silent (Bool.eq_false_iff.mpr he)]

/-- Each line of a pass: it is debounced, and its overrun flag is set where its event is lost. -/
theorem LineUnit.foldl_takeLine_get (ls : List LineIx) (hls : ls.Nodup) (x : LineUnit) (hj : j ∈ ls) :
    (ls.foldl (LineUnit.takeLine levels event record) x).lines.get j =
      { (x.lines.get j).sampled (levels.getLsbD j.val) with
        overrun := (x.lines.get j).overrun || decide (j ∈ (ls.filter event).drop (16 - x.queue.length)) } := by
  induction ls generalizing x with
  | nil => cases hj
  | cons l ls ih =>
    obtain ⟨hl, hls⟩ := List.nodup_cons.mp hls
    have hdropped : ∀ n, l ∉ (ls.filter event).drop n := fun n h => hl (List.mem_filter.mp (List.mem_of_mem_drop h)).1
    rw [List.foldl_cons]
    by_cases hjl : j = l
    · subst hjl
      rw [LineUnit.foldl_takeLine_get_out ls _ hl]
      by_cases he : event j = true
      · rw [List.filter_cons_of_pos he]
        by_cases hroom : x.queue.length < 16
        · rw [LineUnit.takeLine_kept he hroom, show 16 - x.queue.length = (16 - (x.queue.length + 1)) + 1 by omega]
          simp [hdropped, LineRec.sampled]
        · rw [LineUnit.takeLine_lost he (Nat.not_lt.mp hroom), show 16 - x.queue.length = 0 by omega]
          simp
      · rw [List.filter_cons_of_neg he, LineUnit.takeLine_silent (Bool.eq_false_iff.mpr he)]
        simp [hdropped, LineRec.sampled]
    · have hmem : j ∈ ls := (List.mem_cons.mp hj).resolve_left hjl
      rw [ih hls _ hmem, LineUnit.takeLine_get_ne hjl]
      by_cases he : event l = true
      · rw [List.filter_cons_of_pos he]
        by_cases hroom : x.queue.length < 16
        · rw [LineUnit.takeLine_kept he hroom, show 16 - x.queue.length = (16 - (x.queue.length + 1)) + 1 by omega]
          simp
        · rw [LineUnit.takeLine_lost he (Nat.not_lt.mp hroom), show 16 - x.queue.length = 0 by omega]
          simp [hjl]
      · rw [List.filter_cons_of_neg he, LineUnit.takeLine_silent (Bool.eq_false_iff.mpr he)]

end

/-- The sixteen lines of a sample, in the claims' words. -/
theorem sampledUnit_eq (s : State) (levels : BitVec 16) :
    sampledUnit s levels =
      { (List.finRange 16).foldl (LineUnit.takeLine levels (makesEvent s levels) (lineEventRecord s levels)) s.lineUnit with
        sampleLeft := s.lineUnit.period } := by
  have hqueue := LineUnit.foldl_takeLine_queue (levels := levels) (event := makesEvent s levels)
    (record := lineEventRecord s levels) (List.finRange 16) s.lineUnit
  have hperiod := LineUnit.foldl_takeLine_period (levels := levels) (event := makesEvent s levels)
    (record := lineEventRecord s levels) (List.finRange 16) s.lineUnit
  have hlines : (sampledUnit s levels).lines = ((List.finRange 16).foldl
      (LineUnit.takeLine levels (makesEvent s levels) (lineEventRecord s levels)) s.lineUnit).lines :=
    Tab.ext_get (fun j => by
      rw [LineUnit.foldl_takeLine_get _ (List.nodup_finRange 16) _ (List.mem_finRange j), sampledUnit, Tab.get_ofFn]
      rfl)
  generalize (List.finRange 16).foldl (LineUnit.takeLine levels (makesEvent s levels) (lineEventRecord s levels)) s.lineUnit = x
    at hqueue hperiod hlines ⊢
  dsimp only
  rw [← hlines, hqueue, hperiod]
  rfl

/-! ### One line in the state (R58 to R61) -/

/-- The sample of one line. -/
def State.sampleAt (levels : BitVec 16) (s : State) (l : LineIx) : State := s.sampleLine l (levels.getLsbD l.val)

/-- The Line Unit after the sample of one line of a state. -/
def State.tookLine (s : State) (levels : BitVec 16) (l : LineIx) : LineUnit :=
  s.lineUnit.takeLine levels (makesEvent s levels) (lineEventRecord s levels) l

/-- A line whose accepted change ends the park (R61). -/
abbrev State.lit (s : State) (levels : BitVec 16) (l : LineIx) : Prop :=
  s.mode = .park ∧ (lineOf s l).role = .ignition ∧ levels.getLsbD l.val = true ∧ acceptedChange s l true = true

theorem ignites_iff (s : State) (levels : BitVec 16) : ignites s levels ↔ ∃ l, s.lit levels l := by
  simp only [State.lit, exists_and_left]

theorem makesEvent_eq (s : State) (levels : BitVec 16) (l : LineIx) :
    makesEvent s levels l = (acceptedChange s l (levels.getLsbD l.val) && (lineOf s l).role == .wake &&
      (lineOf s l).edge.includes (levels.getLsbD l.val)) := by
  rw [makesEvent]
  cases (lineOf s l).edge <;> cases levels.getLsbD l.val <;> rfl

/-- A line that makes no event is debounced and no more. -/
theorem State.tookLine_silent (h : makesEvent s levels l = false) :
    { s with lineUnit := s.tookLine levels l } = s.updLine l (fun r => r.sampled (levels.getLsbD l.val)) := by
  rw [State.tookLine, LineUnit.takeLine_silent h]
  rfl

theorem State.updLine_updLine (s : State) (l : LineIx) (f g : LineRec → LineRec) :
    (s.updLine l f).updLine l g = s.updLine l (fun r => g (f r)) := by
  simp [State.updLine, Tab.modify, Tab.set_set]

/-- The event of a line, appended or lost. -/
theorem State.tookLine_event (h : makesEvent s levels l = true) :
    { s with lineUnit := s.tookLine levels l } =
      (s.updLine l (fun r => r.sampled (levels.getLsbD l.val))).lineEvent l (levels.getLsbD l.val) := by
  have hrecord : s.lineRecord l (levels.getLsbD l.val) = lineEventRecord s levels l := by
    rw [State.lineRecord, lineEventRecord]
    cases levels.getLsbD l.val <;> rfl
  rw [State.tookLine]
  unfold State.lineEvent
  by_cases hroom : s.lineUnit.queue.length < 16
  · rw [LineUnit.takeLine_kept h hroom, ← hrecord]
    exact (if_pos hroom).symm
  · rw [LineUnit.takeLine_lost h (Nat.not_lt.mp hroom), State.updLine_updLine]
    exact (if_neg hroom).symm

theorem LineRec.changes_eq (s : State) (l : LineIx) (v : Bool) : (s.lineUnit.lines.get l).changes v = acceptedChange s l v := rfl

/-- The sample of one line: the Line Unit takes it, and an ignition line that calls for it ends the park. -/
theorem State.sampleAt_eq (s : State) (levels : BitVec 16) (l : LineIx) :
    s.sampleAt levels l =
      if s.lit levels l then ({ s with lineUnit := s.tookLine levels l } : State).parkExit
      else { s with lineUnit := s.tookLine levels l } := by
  have hrole : ((s.updLine l (fun r => r.sampled (levels.getLsbD l.val))).lineUnit.lines.get l).role = (lineOf s l).role := by
    rw [State.updLine, Tab.get_modify_self]
    rfl
  have hedge : ((s.updLine l (fun r => r.sampled (levels.getLsbD l.val))).lineUnit.lines.get l).edge = (lineOf s l).edge := by
    rw [State.updLine, Tab.get_modify_self]
    rfl
  have hevent := makesEvent_eq s levels l
  rw [State.sampleAt, State.sampleLine, LineRec.changes_eq]
  by_cases hc : acceptedChange s l (levels.getLsbD l.val) = true
  · obtain ⟨role, hr⟩ : ∃ role, (lineOf s l).role = role := ⟨_, rfl⟩
    rw [if_pos hc, State.acceptChange, hrole.trans hr, hedge]
    rw [hc, Bool.true_and, hr] at hevent
    cases role with
    | unused =>
      have hdark : ¬s.lit levels l := by simp [hr]
      rw [if_neg hdark, State.tookLine_silent hevent]
    | wake =>
      have hdark : ¬s.lit levels l := by simp [hr]
      rw [if_neg hdark]
      dsimp only
      by_cases hi : (lineOf s l).edge.includes (levels.getLsbD l.val) = true
      · rw [if_pos hi, State.tookLine_event (hevent.trans hi)]
      · rw [if_neg hi, State.tookLine_silent (hevent.trans (Bool.eq_false_iff.mpr hi))]
    | ignition =>
      rw [State.tookLine_silent hevent]
      refine if_congr ⟨fun ⟨hv, hpark⟩ => ⟨hpark, hr, hv, hv ▸ hc⟩, ?_⟩ rfl rfl
      exact fun ⟨hpark, _, hv, _⟩ => ⟨hv, hpark⟩
  · rw [if_neg hc, State.tookLine_silent (by rw [hevent, Bool.eq_false_iff.mpr hc]; rfl), if_neg]
    rintro ⟨-, -, hv, hchange⟩
    exact hc (hv ▸ hchange)

/-! ### The sixteen lines in the state -/

/-- From state `s` to state `u` a pass has come to none of some lines. -/
structure State.Ahead (s u : State) (ls : List LineIx) : Prop where
  clock : u.management.clock = s.management.clock
  line  : ∀ j ∈ ls, lineOf u j = lineOf s j

/-- The sample of one line leaves what the others bring about. -/
theorem State.lit_tookLine (u : State) (h : j ≠ l) :
    ({ u with lineUnit := u.tookLine levels l } : State).lit levels j ↔ u.lit levels j := by
  have hline : lineOf { u with lineUnit := u.tookLine levels l } j = lineOf u j := LineUnit.takeLine_get_ne h
  rw [State.lit, State.lit, acceptedChange, acceptedChange, hline]
  rfl

/-- The Line Unit takes a line that a pass comes to as it would have at its begin. -/
theorem State.Ahead.tookLine {ls : List LineIx} (h : s.Ahead u (l :: ls)) :
    u.tookLine levels l = u.lineUnit.takeLine levels (makesEvent s levels) (lineEventRecord s levels) l := by
  have hline := h.line l List.mem_cons_self
  refine LineUnit.takeLine_congr ?_ ?_
  · rw [makesEvent, makesEvent, acceptedChange, acceptedChange, hline]
  · rw [lineEventRecord, lineEventRecord, h.clock]

/-- The next line is taken. -/
theorem State.Ahead.next {ls : List LineIx} {t : State} (h : s.Ahead u (l :: ls)) (hl : l ∉ ls)
    (hclock : t.management.clock = u.management.clock) (hunit : t.lineUnit = u.tookLine levels l) : s.Ahead t ls where
  clock := hclock.trans h.clock
  line := fun j hj => by
    have hjl : j ≠ l := fun e => hl (e ▸ hj)
    rw [lineOf, hunit, State.tookLine, LineUnit.takeLine_get_ne hjl]
    exact h.line j (List.mem_cons_of_mem l hj)

/-- A pass over lines of which none ends the park. -/
theorem State.foldl_sampleAt_dark (ls : List LineIx) (hls : ls.Nodup) (hu : s.Ahead u ls)
    (hdark : ∀ j ∈ ls, ¬u.lit levels j) : ls.foldl (State.sampleAt levels) u =
      { u with
        lineUnit := ls.foldl (LineUnit.takeLine levels (makesEvent s levels) (lineEventRecord s levels)) u.lineUnit } := by
  induction ls generalizing u with
  | nil => rfl
  | cons l ls ih =>
    obtain ⟨hl, hls⟩ := List.nodup_cons.mp hls
    have hnext : s.Ahead { u with lineUnit := u.tookLine levels l } ls := hu.next hl rfl rfl
    rw [List.foldl_cons, List.foldl_cons, State.sampleAt_eq, if_neg (hdark l List.mem_cons_self), ← hu.tookLine, ih hls hnext]
    intro j hj hlit
    have hjl : j ≠ l := fun e => hl (e ▸ hj)
    exact hdark j (List.mem_cons_of_mem l hj) ((u.lit_tookLine hjl).mp hlit)

/-- A pass that comes to a line that ends the park: the Park Exit is the first such line's, and none follows it in RUN. -/
theorem State.foldl_sampleAt_lit (ls : List LineIx) (hls : ls.Nodup) (hu : s.Ahead u ls) (hlit : ∃ j ∈ ls, u.lit levels j) :
    ∃ x, ls.foldl (State.sampleAt levels) u =
      { ({ u with lineUnit := x } : State).parkExit with
        lineUnit := ls.foldl (LineUnit.takeLine levels (makesEvent s levels) (lineEventRecord s levels)) u.lineUnit } := by
  induction ls generalizing u with
  | nil => obtain ⟨j, hj, -⟩ := hlit; cases hj
  | cons l ls ih =>
    obtain ⟨hl, hls⟩ := List.nodup_cons.mp hls
    rw [List.foldl_cons, List.foldl_cons, State.sampleAt_eq, ← hu.tookLine]
    by_cases h : u.lit levels l
    · refine ⟨u.tookLine levels l, ?_⟩
      have hfixed := ({ u with lineUnit := u.tookLine levels l } : State).parkExit_fixed
      rw [if_pos h]
      generalize ({ u with lineUnit := u.tookLine levels l } : State).parkExit = t at hfixed ⊢
      have hmanagement : t.management = { u.management with mode := .run } := congrArg Fixed.management hfixed
      have hunit : t.lineUnit = u.tookLine levels l := congrArg Fixed.lineUnit hfixed
      have hnext : s.Ahead t ls := hu.next hl (by rw [hmanagement]) hunit
      have hdark : ∀ j ∈ ls, ¬t.lit levels j := fun j _ ⟨hpark, _⟩ =>
        nomatch (congrArg Management.mode hmanagement).symm.trans hpark
      rw [State.foldl_sampleAt_dark ls hls hnext hdark, hunit]
    · have hnext : s.Ahead { u with lineUnit := u.tookLine levels l } ls := hu.next hl rfl rfl
      rw [if_neg h]
      refine ih hls hnext ?_
      obtain ⟨j, hj, hlitj⟩ := hlit
      have hjl : j ≠ l := fun e => h (e ▸ hlitj)
      exact ⟨j, (List.mem_cons.mp hj).resolve_left hjl, (u.lit_tookLine hjl).mpr hlitj⟩

theorem State.Ahead.refl (s : State) (ls : List LineIx) : s.Ahead s ls := ⟨rfl, fun _ _ => rfl⟩

/-! ### The sample (R57) -/

/-- The next sample is due one period later. -/
def State.intervalStarts (s : State) : State :=
  { s with lineUnit := { s.lineUnit with sampleLeft := s.lineUnit.period } }

theorem State.sample_eq (s : State) (levels : BitVec 16) :
    s.sample levels = ((List.finRange 16).foldl (State.sampleAt levels) s).intervalStarts := by
  have hpass : (fun (s : State) (l : LineIx) => s.sampleLine l (levels.getLsbD l.val)) = State.sampleAt levels := rfl
  rw [State.sample, hpass, State.intervalStarts]

theorem State.sample_dark (h : ¬ignites s levels) : s.sample levels = { s with lineUnit := sampledUnit s levels } := by
  have hdark : ∀ j ∈ List.finRange 16, ¬s.lit levels j := fun j _ hj => h ((ignites_iff s levels).mpr ⟨j, hj⟩)
  rw [State.sample_eq, State.foldl_sampleAt_dark _ (List.nodup_finRange 16) (.refl s _) hdark, State.intervalStarts,
    sampledUnit_eq]
  dsimp only
  rw [LineUnit.foldl_takeLine_period]

theorem State.sample_lit (h : ignites s levels) :
    ∃ x, s.sample levels = { ({ s with lineUnit := x } : State).parkExit with lineUnit := sampledUnit s levels } := by
  obtain ⟨l, hl⟩ := (ignites_iff s levels).mp h
  obtain ⟨x, hfold⟩ := State.foldl_sampleAt_lit (levels := levels) (List.finRange 16) (List.nodup_finRange 16) (.refl s _)
    ⟨l, List.mem_finRange l, hl⟩
  refine ⟨x, ?_⟩
  rw [State.sample_eq, hfold, State.intervalStarts, sampledUnit_eq]
  dsimp only
  rw [LineUnit.foldl_takeLine_period]

end Sys2Proof.Machine

open Sys2Proof Sys2Proof.Machine Sys2Proof.Claims

/-- Settles O59, by whether a line ends the park. -/
theorem samplesDebounceTheLines : Obligations.SamplesDebounceTheLines := by
  intro s levels
  refine ⟨s.sample levels, rfl, ?_⟩
  by_cases h : ignites s levels
  · obtain ⟨x, hx⟩ := State.sample_lit h
    have hfixed := ({ s with lineUnit := x } : State).parkExit_fixed
    have hstate := ({ s with lineUnit := x } : State).parkExit_state
    have hcauses := ({ s with lineUnit := x } : State).parkExit_causes
    have hactive := ({ s with lineUnit := x } : State).parkExit_active
    have haccount := ({ s with lineUnit := x } : State).parkExit_account
    rw [hx]
    generalize ({ s with lineUnit := x } : State).parkExit = t at hfixed hstate hcauses hactive haccount ⊢
    exact ⟨rfl, fun hdark => absurd h hdark, fun _ => ⟨congrArg Fixed.management hfixed, hstate, hcauses, hactive, haccount,
      congrArg Fixed.engine hfixed, congrArg Fixed.contributions hfixed, congrArg Fixed.timerUnit hfixed⟩⟩
  · rw [State.sample_dark h]
    exact ⟨rfl, fun _ => rfl, fun hlit => absurd hlit h⟩

end

section
/-! Set Slots (O38): the set of slot holders in its two bytes, the report of the arbiter, and the count that is written. -/

namespace Sys2Proof.Machine

open Sys2Proof.Claims

variable {u : State} {args : List Byte}

/-! ### Sets of domains in two bytes (R174) -/

theorem foldl_onlyDomain (f : Domain → Bool) (d : Domain) (l : List Domain) (a : DomainSet) :
    hasDomain (l.foldl (fun acc e => if f e = true then acc ||| onlyDomain e else acc) a) d =
      (hasDomain a d || l.any (fun e => d == e && f e)) := by
  induction l generalizing a with
  | nil => simp
  | cons e l ih =>
    rw [List.foldl_cons, ih, List.any_cons, ← Bool.or_assoc]
    cases f e <;> simp [hasDomain_or, hasDomain_onlyDomain]

theorem hasDomain_domainSetWhere (f : Domain → Bool) (d : Domain) : hasDomain (domainSetWhere f) d = f d := by
  have hzero : hasDomain 0 d = false := BitVec.getLsbD_zero
  rw [domainSetWhere, foldl_onlyDomain, hzero, Bool.false_or, Bool.eq_iff_iff, List.any_eq_true]
  simp

/-- The two bytes of a set of domains are those of a value below 4096 that has a bit for each of its domains. -/
theorem domainSetWhere_bytes (f : Domain → Bool) :
    ∃ x : BitVec 16, (∀ d : Domain, x.getLsbD d.val = f d) ∧ x.toNat < 4096 ∧
      domainSetBytes (domainSetWhere f) = two x.toNat := by
  have hvalue : ((domainSetWhere f).setWidth 16).toNat = (domainSetWhere f).toNat :=
    BitVec.toNat_setWidth_of_le (by decide)
  refine ⟨(domainSetWhere f).setWidth 16, fun d => ?_, ?_, ?_⟩
  · have hd : d.val < 16 := by omega
    rw [BitVec.getLsbD_setWidth, decide_eq_true hd, Bool.true_and]
    exact hasDomain_domainSetWhere f d
  · rw [hvalue]
    exact (domainSetWhere f).isLt
  · rw [hvalue, domainSetBytes, beBytes_two]

/-! ### The report of the arbiter (R108, R177) -/

/-- The count enters the report in its first byte alone; the other bytes are those of the holders and of the wait queue. -/
theorem slotBytes_withCount (a : SlotArbiter) :
    ∃ holders : BitVec 16, (∀ d : Domain, holders.getLsbD d.val = (a.holders.get d).isSome) ∧ holders.toNat < 4096 ∧
      ∀ k, slotBytes { a with count := k } =
        [BitVec.ofNat 8 k] ++ two holders.toNat ++
          [BitVec.ofNat 8 a.queue.length,
           match a.queue.head? with
           | some e => BitVec.ofNat 8 e.domain.val
           | none => 0xFF] := by
  obtain ⟨holders, hbits, hlt, hbytes⟩ := domainSetWhere_bytes (fun d => (a.holders.get d).isSome)
  refine ⟨holders, hbits, hlt, fun k => ?_⟩
  rw [slotBytes, hbytes]
  cases a.queue.head? <;> rfl

/-! ### Set Slots (R108) -/

theorem exec_setSlots {s : State} {tag b : Byte} {rest : List Byte} (hs : Executes s) :
    exec (.setSlots tag (b :: rest)) s = .next
      (answered (answerSetSlots (b :: rest.take 5) (taken s)).1
        (responseBytes 0x1D tag (answerSetSlots (b :: rest.take 5) (taken s)).2)) :=
  takeRequest_answered hs (by simp [frameArgs]) (fun _ => rfl)

theorem answerSetSlots_query (h : (argByte args 2).getLsbD 7 = true) :
    answerSetSlots args u = (u, .okay (slotBytes u.slots)) := if_pos h

/-- Without the query flag the count is written, and the answer tells whether it was in range. -/
theorem answerSetSlots_written (h : ¬(argByte args 2).getLsbD 7 = true) :
    answerSetSlots args u =
      let n := (argByte args 2).toNat % 128
      let a := { u.slots with count := intoRange 1 4 n }
      ({ u with slots := a }, { reply := if 1 ≤ n ∧ n ≤ 4 then .ok else .clamped, data := slotBytes a }) := by
  have hn : bitField (argByte args 2) 0 7 = (argByte args 2).toNat % 128 := bitField_zero _ 7
  dsimp only
  rw [answerSetSlots, if_neg h, hn, intoRange, ← clampTo_eq (by decide)]
  simp only [clampTo_eq_self_iff (show 1 ≤ 4 by decide)]
  rfl

end Sys2Proof.Machine

open Sys2Proof Sys2Proof.Machine Sys2Proof.Claims

/-- Settles O38, by the query flag, and by whether the count given is in range. -/
theorem setSlotsWritesTheCountAlone : Obligations.SetSlotsWritesTheCountAlone := by
  intro s tag b rest hs
  obtain ⟨holders, hbits, hlt, hbytes⟩ := slotBytes_withCount s.slots
  refine ⟨_, exec_setSlots hs, holders, hbits, hlt, ?_⟩
  have hreport : ∀ (t : State) (o : Byte) (k : Nat),
      answered t (0x1D :: tag :: o :: slotBytes { s.slots with count := k }) = answered t (0x1D :: tag :: o :: _) :=
    fun t o k => congrArg (fun data => answered t (0x1D :: tag :: o :: data)) (hbytes k)
  by_cases hquery : b.getLsbD 7 = true
  · rw [answerSetSlots_query (args := b :: rest.take 5) hquery, if_pos hquery, if_pos (.inl hquery)]
    exact hreport (taken s) 0 s.slots.count
  · rw [answerSetSlots_written (args := b :: rest.take 5) hquery, if_neg hquery]
    have hbyte : argByte (b :: rest.take 5) 2 = b := rfl
    by_cases hrange : 1 ≤ b.toNat % 128 ∧ b.toNat % 128 ≤ 4
    · rw [if_pos (.inr hrange), hbyte]
      dsimp only
      rw [if_pos hrange]
      exact hreport _ 0 _
    · rw [if_neg (not_or.mpr ⟨hquery, hrange⟩), hbyte]
      dsimp only
      rw [if_neg hrange]
      exact hreport _ 1 _

end

section
/-! The Park Exit at the Management Unit (O23): each domain's own EXIT wake, the captures, and the response of the request. -/

namespace Sys2Proof.Machine

open Sys2Proof.Claims

variable {s t : State} {d e : Domain}

/-! ### The wake of one domain in RUN (R78, R93, R131) -/

/-- In RUN an admission takes no token and makes no trigger (R132). -/
theorem State.settleAdmission_of_run (hrun : s.mode = .run) (d : Domain) (c : WakeClass) (cause : Cause) (o : WakeOutcome) :
    s.settleAdmission d c cause o = s := by
  simp [State.settleAdmission, State.consumes, hrun]

/-- In RUN the wake of a domain that exits is its record and its admission alone. -/
theorem State.wakeRequest_exit (hrun : s.mode = .run) (h : exits s d = true) :
    s.wakeRequest d 0 .exit = (s.writeCause d .exit 0 .admitted none).admitted d 0 := by
  have hjudge : s.judge d 0 = .admitted := (s.judge_eq d 0).trans (outcomeOf_exit hrun h 0)
  have hnamed : s.namedBuffer .admitted = none := if_neg (fun hp => Mode.noConfusion (hrun.symm.trans hp.2))
  rw [State.wakeRequest, hjudge, hnamed, State.settleAdmission_of_run hrun]
  rfl

theorem State.wakeRequest_dom_ne (s : State) (h : e ≠ d) (c : WakeClass) (cause : Cause) :
    (s.wakeRequest d c cause).dom e = s.dom e := by
  have hsettled : ((s.settleAdmission d c cause (s.judge d c)).writeCause d cause c (s.judge d c)
      (s.namedBuffer (s.judge d c))).dom e = s.dom e :=
    State.dom_of_domains (State.settleAdmission_domains _ d c cause (s.judge d c)) e
  rw [State.wakeRequest]
  refine Eq.trans ?_ hsettled
  unfold State.actOn
  split
  · exact State.admitted_dom_ne _ h c
  · exact State.merged_dom_ne _ h c
  · rfl

/-- At a return to AWAKE the notice touches no wind timer. -/
theorem State.noticeAtReturn_windTimer (h : (s.dom d).state ≠ .winding) :
    ((s.noticeAtReturn d).dom d).windTimer = (s.dom d).windTimer := by
  unfold State.noticeAtReturn
  split
  · exact State.withdrawNotice_windTimer h
  · exact s.offerCancel_windTimer d
  · rfl

/-- The record of a domain that has returned from WINDING to AWAKE for a wake of class `c`, but for its notice field. -/
def DomainRec.returned (r : DomainRec) (c : WakeClass) : DomainRec :=
  { r with
    state := .awake
    enable := true
    wakeClass := some c
    windTimer := none
    sleepReason := none
    minAwakeTimer := if r.params.minAwake = 0 then none else some r.params.minAwake
    idleTimer := .running r.params.idleTimeout }

/-- The record of a domain that has become QUEUED for a wake of class `c`. -/
def DomainRec.queuedAt (r : DomainRec) (c : WakeClass) : DomainRec :=
  { r with state := .queued, enable := false, wakeClass := some c, retriesUsed := 0 }

theorem State.admitted_dom_of_asleep (h : (s.dom d).state = .asleep) (c : WakeClass) :
    (s.admitted d c).dom d = (s.dom d).queuedAt c := by
  unfold State.admitted
  rw [h]
  dsimp only
  rw [State.dom_updSlots, State.enterState_dom, if_pos rfl, State.dom_updDom_self]
  rfl

theorem State.admitted_dom_of_winding (h : (s.dom d).state = .winding) (c : WakeClass) :
    ∃ n, (s.admitted d c).dom d = { (s.dom d).returned c with notice := n } := by
  unfold State.admitted State.returnAwake
  rw [h]
  dsimp only
  have hawake : ((s.updDom d (fun r => { r with windTimer := none, sleepReason := none, wakeClass := some c })).enterAwake d).dom d
      = (s.dom d).returned c := by
    rw [State.enterAwake, State.enterState_dom, if_pos rfl, State.dom_updDom_self, State.dom_updDom_self]
    rfl
  generalize (s.updDom d (fun r => { r with windTimer := none, sleepReason := none, wakeClass := some c })).enterAwake d = u
    at hawake ⊢
  have hnotice := (u.noticeFrame_noticeAtReturn d).dom d
  rw [State.noticeAtReturn_windTimer (by rw [hawake]; exact DomainState.noConfusion), hawake] at hnotice
  exact ⟨_, hnotice⟩

/-! ### Each domain after a Park Exit (R117) -/

/-- The pass of the EXIT wakes comes to each domain in RUN and with its record as it stood before the Park Exit. -/
theorem State.parkExit_dom (s : State) (d : Domain) :
    ∃ u : State, u.mode = .run ∧ u.dom d = s.dom d ∧ s.parkExit.dom d = (u.exitRequest (exits s) d).dom d := by
  obtain ⟨u, hbefore, hafter⟩ := State.eachDomain_at (fun u => (u.mode, u.dom d)) (f := State.exitRequest (exits s)) (d := d)
    (fun u e he => Prod.ext (State.mode_of_fixed (State.request_fixed _ _ _ u e))
      (State.ite_keeps (·.dom d) (u.wakeRequest_dom_ne he.symm 0 .exit) rfl)) s.unparked
  obtain ⟨hmode, hdom⟩ := Prod.mk.inj hbefore
  rw [State.parkExit_round]
  exact ⟨u, hmode.trans s.unparked_mode, hdom.trans (s.unparked_dom d), (Prod.mk.inj hafter).2⟩

theorem State.parkExit_dom_of_stays (h : exits s d = false) : s.parkExit.dom d = s.dom d := by
  obtain ⟨u, -, hdom, hexit⟩ := s.parkExit_dom d
  have hskip : u.exitRequest (exits s) d = u := if_neg (Bool.eq_false_iff.mp h)
  rw [hexit, hskip, hdom]

theorem State.parkExit_dom_of_exits (h : exits s d = true) :
    ∃ u : State, u.dom d = s.dom d ∧ s.parkExit.dom d = (u.admitted d 0).dom d := by
  obtain ⟨u, hrun, hdom, hexit⟩ := s.parkExit_dom d
  have hu : exits u d = true := by rw [exits, hdom]; exact h
  refine ⟨u.writeCause d .exit 0 .admitted none, hdom, ?_⟩
  have hrequest : u.exitRequest (exits s) d = u.wakeRequest d 0 .exit := if_pos h
  rw [hexit, hrequest, State.wakeRequest_exit hrun hu]

theorem State.parkExit_dom_of_asleep (henabled : (s.dom d).params.enabled = true) (h : (s.dom d).state = .asleep) :
    s.parkExit.dom d = (s.dom d).queuedAt 0 := by
  obtain ⟨u, hdom, hexit⟩ := State.parkExit_dom_of_exits (exits_iff.mpr ⟨henabled, .inl h⟩)
  rw [← hdom] at h ⊢
  exact hexit.trans (State.admitted_dom_of_asleep h 0)

theorem State.parkExit_dom_of_winding (henabled : (s.dom d).params.enabled = true) (h : (s.dom d).state = .winding) :
    ∃ n, s.parkExit.dom d = { (s.dom d).returned 0 with notice := n } := by
  obtain ⟨u, hdom, hexit⟩ := State.parkExit_dom_of_exits (exits_iff.mpr ⟨henabled, .inr h⟩)
  rw [← hdom] at h ⊢
  rw [hexit]
  exact State.admitted_dom_of_winding h 0

theorem exits_eq_false_iff : exits s d = false ↔
    (s.dom d).params.enabled = false ∨ ((s.dom d).state ≠ .asleep ∧ (s.dom d).state ≠ .winding) := by
  rw [← Bool.not_eq_true, exits_iff, not_and_or, not_or, Bool.not_eq_true]

/-! ### The captures at a Park Exit (R148, R159) -/

/-- In RUN a closing opens no buffer. -/
theorem afterClosing_of_run {m : Management} (hrun : m.mode = .run) (c : CaptureStore) (b : Buffer) :
    afterClosing m c b = { c with
      writePtr := (c.writePtr + 1) % (32 / 2 ^ c.mode.val)
      buffers := c.buffers.set c.writePtr (closedBuffer b m.clock) } := by
  rw [afterClosing, if_neg (fun h => Mode.noConfusion (hrun.symm.trans h.1))]

theorem State.closeBuffer_of_run (hrun : s.mode = .run) :
    s.closeBuffer.capture = afterClosing s.management s.capture (s.buffer s.capture.writePtr) := by
  have hclosed : s.updBuffer s.capture.writePtr (fun b => b.close s.clock) =
      s.updBuffer s.capture.writePtr (fun _ => closedBuffer (s.buffer s.capture.writePtr) s.clock) := by
    rw [← Buffer.close_eq]
    exact onBuffer_eq_const s s.capture.writePtr (fun b => b.close s.clock)
  rw [State.closeBuffer, State.openBuffer, if_neg (fun h => Mode.noConfusion (hrun.symm.trans h.1)), hclosed,
    afterClosing_of_run hrun, List.set_eq_modify]
  rfl

theorem State.captureParkExit_opened (h : (s.buffer s.capture.writePtr).state = .opened) :
    s.captureParkExit.capture =
      { s.capture with buffers := s.capture.buffers.set s.capture.writePtr Buffer.free } := by
  rw [State.captureParkExit, h, List.set_eq_modify]
  rfl

theorem State.captureParkExit_post (hrun : s.mode = .run) (h : (s.buffer s.capture.writePtr).state = .post) :
    s.captureParkExit.capture = afterClosing s.management s.capture (s.buffer s.capture.writePtr) := by
  rw [State.captureParkExit, h]
  exact State.closeBuffer_of_run hrun

theorem State.captureParkExit_idle (h : ¬recordsInto (s.buffer s.capture.writePtr)) : s.captureParkExit = s := by
  unfold State.captureParkExit
  split
  · next hopen => exact absurd (.inl hopen) h
  · next hpost => exact absurd (.inr hpost) h
  · rfl

/-- The EXIT wakes touch no capture. -/
theorem State.foldl_exitRequest_capture (q : Domain → Bool) (l : List Domain) (hs : s.PortsFollow) (hrun : s.mode = .run) :
    (l.foldl (State.exitRequest q) s).capture = s.capture := by
  induction l generalizing s with
  | nil => rfl
  | cons d l ih =>
    have hwakes : s.Wakes (s.exitRequest q d) := .request q _ _ hs d
    have hcapture : (s.exitRequest q d).capture = s.capture :=
      State.ite_keeps State.capture
        ((State.wakeRequest_capture hs d 0 .exit).trans (by rw [State.settleAdmission_of_run hrun])) rfl
    rw [List.foldl_cons, ih hwakes.follow ((State.mode_of_calm hwakes.calm).trans hrun), hcapture]

theorem State.parkExit_capture (s : State) : s.parkExit.capture = s.unparked.capture := by
  rw [State.parkExit_round]
  exact State.foldl_exitRequest_capture _ _ s.unparked_follows s.unparked_mode

/-- The state with the mode RUN, in which the ports derive their states at a Park Exit (R116). -/
def State.inRun (s : State) : State := { s with management := { s.management with mode := .run } }

theorem State.unparked_eq (s : State) : s.unparked = s.inRun.rederiveAll.captureParkExit := rfl

/-- While the ports follow the domains no port derives another state. -/
theorem State.PortsFollow.rederiveAll (hs : s.PortsFollow) : s.rederiveAll = s :=
  List.foldlRecOn (motive := fun t => t = s) _ _ rfl (fun t ht p _ => by
    rw [ht, State.rederive, if_pos (hs p).symm])

/-- A change to RUN brings no port to another state where B is ACTIVE already. -/
theorem State.PortsFollow.inRun (hs : s.PortsFollow) (hB : (s.port Port.B).active = true) : s.inRun.PortsFollow := fun p => by
  by_cases hp : p = Port.B
  · rw [hp, State.derivedActive, if_pos rfl]
    exact hB
  · have h := hs p
    rw [State.derivedActive, if_neg hp] at h ⊢
    exact h

/-- A port that leaves a buffer changes the state of a CLOSED one at most. -/
theorem Buffer.giveUp_state {b : Buffer} (h : b.state ≠ .closed) (p : Port) : (b.giveUp p).state = b.state := by
  unfold Buffer.giveUp Buffer.settle
  rw [if_neg (fun hc => h hc.1)]

theorem State.abortReplay_bufferState {j : Nat} (h : (s.buffer j).state ≠ .closed) (p : Port) :
    ((s.abortReplay p).buffer j).state = (s.buffer j).state := by
  unfold State.abortReplay
  split
  · next k _ =>
    refine Eq.trans (b := ((s.updBuffer k (fun b => b.giveUp p)).buffer j).state) rfl ?_
    by_cases hj : j = k
    · subst hj
      by_cases hlt : j < s.capture.buffers.length
      · rw [State.buffer_updBuffer_self s _ hlt, Buffer.giveUp_state h]
      · rw [State.updBuffer, List.modify_eq_self (Nat.not_lt.mp hlt)]
    · rw [State.buffer_updBuffer_ne s _ hj]
  · rfl

/-- A change of port state aborts a replay at most, and so touches no buffer that is not CLOSED (R152). -/
theorem State.rederive_bufferState {j : Nat} (h : (s.buffer j).state ≠ .closed) (p : Port) :
    ((s.rederive p).buffer j).state = (s.buffer j).state := by
  have hlisten : ((s.portListen p).buffer j).state = (s.buffer j).state := by
    unfold State.portListen
    dsimp only
    split
    · rfl
    · split
      · rfl
      · exact State.abortReplay_bufferState (s := s.updPort p PortUnit.toListen) h p
  exact State.ite_keeps (fun t : State => (t.buffer j).state) rfl
    (State.ite_keeps (fun t : State => (t.buffer j).state) rfl hlisten)

theorem State.rederiveAll_bufferState {j : Nat} (h : (s.buffer j).state ≠ .closed) :
    (s.rederiveAll.buffer j).state = (s.buffer j).state := by
  unfold State.rederiveAll
  exact List.foldlRecOn (motive := fun t : State => (t.buffer j).state = (s.buffer j).state) _ _ rfl (fun t ht p _ =>
    (State.rederive_bufferState (by rw [ht]; exact h) p).trans ht)

theorem State.calm_rederiveAll (s : State) : s.rederiveAll.calm = s.calm :=
  State.foldl_keeps State.calm _ State.calm_rederive _ s

theorem State.bufferCount_of_calm (h : t.calm = s.calm) : t.capture.buffers.length = s.capture.buffers.length :=
  congrArg (fun c => c.store.2.2.2.2) h

/-- The buffer at the write pointer once the Capture Store has been told of the Park Exit. -/
theorem State.captureParkExit_buffer (hrun : s.mode = .run) (hw : s.capture.writePtr < s.capture.buffers.length) :
    ((s.buffer s.capture.writePtr).state = .opened → s.captureParkExit.buffer s.capture.writePtr = Buffer.free) ∧
      ((s.buffer s.capture.writePtr).state = .post →
        s.captureParkExit.buffer s.capture.writePtr = closedBuffer (s.buffer s.capture.writePtr) s.clock) := by
  have hself : ∀ b : Buffer, (s.capture.buffers.set s.capture.writePtr b).getD s.capture.writePtr Buffer.free = b := fun b => by
    rw [List.getD_eq_getElem?_getD, List.getElem?_set_self hw]
    rfl
  refine ⟨fun h => ?_, fun h => ?_⟩
  · rw [State.buffer, State.captureParkExit_opened h]
    exact hself _
  · rw [State.buffer, State.captureParkExit_post hrun h, afterClosing_of_run hrun]
    exact hself _

theorem closedBuffer_state (b : Buffer) (second : BitVec 32) :
    (closedBuffer b second).state = .closed ∨ (closedBuffer b second).state = .done := by
  unfold closedBuffer
  dsimp only
  split
  · exact .inr rfl
  · exact .inl rfl

/-- The buffer at the write pointer after a Park Exit, in any state of the ports. -/
theorem State.parkExit_buffer (hw : s.capture.writePtr < s.capture.buffers.length) :
    ((s.buffer s.capture.writePtr).state = .opened → s.parkExit.buffer s.capture.writePtr = Buffer.free) ∧
      ((s.buffer s.capture.writePtr).state = .post →
        (s.parkExit.buffer s.capture.writePtr).state = .closed ∨ (s.parkExit.buffer s.capture.writePtr).state = .done) := by
  have hbuffer : s.parkExit.buffer s.capture.writePtr = s.inRun.rederiveAll.captureParkExit.buffer s.capture.writePtr := by
    rw [State.buffer, State.parkExit_capture, State.unparked_eq, State.buffer]
  have hrun : s.inRun.rederiveAll.mode = .run := State.mode_of_calm s.inRun.calm_rederiveAll
  have hptr : s.inRun.rederiveAll.capture.writePtr = s.capture.writePtr :=
    State.writePtr_of_calm (s := s.inRun) s.inRun.calm_rederiveAll
  have hlen : s.inRun.rederiveAll.capture.buffers.length = s.capture.buffers.length :=
    State.bufferCount_of_calm (s := s.inRun) s.inRun.calm_rederiveAll
  have hkept : ∀ st, st ≠ .closed → (s.buffer s.capture.writePtr).state = st →
      (s.inRun.rederiveAll.buffer s.capture.writePtr).state = st := fun st hst h =>
    (State.rederiveAll_bufferState (s := s.inRun) (fun hc => hst (h.symm.trans hc))).trans h
  obtain ⟨hopened, hpost⟩ := State.captureParkExit_buffer hrun (by rw [hptr, hlen]; exact hw)
  rw [hptr] at hopened hpost
  rw [hbuffer]
  refine ⟨fun h => hopened (hkept _ BufferState.noConfusion h), fun h => ?_⟩
  rw [hpost (hkept _ BufferState.noConfusion h)]
  exact closedBuffer_state _ _

/-! ### The response (R164) -/

theorem answered_getLast (hroom : (t.port Port.B).frameEntries < 24) (bytes : List Byte) :
    ((answered t bytes).port Port.B).fwd.getLast? = some (.frame t.responseId bytes false) := by
  rw [answered, onPort_port_self, offered, if_pos hroom]
  exact List.getLast?_concat

theorem answered_active (t : State) (bytes : List Byte) (p : Port) :
    ((answered t bytes).port p).active = (t.port p).active := by
  rw [answered, onPort_port]
  split
  · next hp =>
    subst hp
    unfold offered
    split <;> rfl
  · rfl

/-- A Park Exit leaves the frame entries of every port. -/
theorem State.parkExit_frames (s : State) (p : Port) : (s.parkExit.port p).frameEntries = (s.port p).frameEntries := by
  have hcount : ∀ u : PortUnit, u.frameEntries = u.calm.frames.length := fun u => List.countP_eq_length_filter
  have hwakes : s.unparked.Wakes s.parkExit := by
    rw [State.parkExit_round]
    exact .foldl (fun u d hu => .request _ _ _ hu d) _ s.unparked_follows
  have hports : s.unparked.ports = s.inRun.rederiveAll.ports := State.captureParkExit_ports _
  have hport : s.unparked.port p = s.inRun.rederiveAll.port p := by rw [State.port, hports, State.port]
  have hview : (s.parkExit.port p).calm = (s.port p).calm :=
    calc (s.parkExit.port p).calm = (s.unparked.port p).calm := congrArg (fun c => c.ports p) hwakes.calm
      _ = (s.inRun.rederiveAll.port p).calm := by rw [hport]
      _ = (s.port p).calm := congrArg (fun c => c.ports p) s.inRun.calm_rederiveAll
  rw [hcount, hcount, hview]

/-! ### The requests (R112, R115) -/

theorem responseBytes_bare (code tag : Byte) (r : Reply) : responseBytes code tag (.bare r) = [code, tag, replyCode r] := by
  cases r <;> rfl

/-- A request without arguments that is answered without data. -/
theorem takeRequest_bare {code tag : Byte} {args : List Byte} {body : State → State × Answer} {r : Reply}
    {manage : Byte → List Byte → State → State} (hs : Executes s) (hbody : body (taken s) = (t, .bare r))
    (hm : ∀ u : State, manage tag (frameArgs args) u = u.manage code tag (frameArgs args) 0 body) :
    takeRequest code tag args manage s = .next (answered t [code, tag, replyCode r]) := by
  rw [takeRequest_answered hs (Nat.zero_le _) hm, hbody, responseBytes_bare]

theorem answerParkExit_park (h : s.mode = .park) : answerParkExit s = (s.parkExit, .bare .ok) := by
  rw [answerParkExit, h]

theorem answerParkExit_run (h : s.mode = .run) : answerParkExit s = (s, .bare .state) := by
  rw [answerParkExit, h]

theorem answerParkEnter_park (h : s.mode = .park) : answerParkEnter s = (s, .bare .state) := by
  rw [answerParkEnter, h]

section
variable (hs : Executes s) (tag : Byte) (args : List Byte)
include hs

theorem exec_parkExit_park (h : s.mode = .park) :
    exec (.parkExit tag args) s = .next (answered (taken s).parkExit [0x05, tag, 0]) :=
  takeRequest_bare (r := .ok) hs (answerParkExit_park (s := taken s) h) (fun _ => rfl)

theorem exec_parkExit_run (h : s.mode = .run) : exec (.parkExit tag args) s = .next (answered (taken s) [0x05, tag, 8]) :=
  takeRequest_bare hs (answerParkExit_run (s := taken s) h) (fun _ => rfl)

theorem exec_parkEnter_park (h : s.mode = .park) : exec (.parkEnter tag args) s = .next (answered (taken s) [0x04, tag, 8]) :=
  takeRequest_bare hs (answerParkEnter_park (s := taken s) h) (fun _ => rfl)

end

/-- The captures after a Park Exit while the ports follow the domains. -/
theorem State.parkExit_capture_of_follows (hs : s.PortsFollow) (hB : (s.port Port.B).active = true) :
    s.parkExit.capture =
      match (s.buffer s.capture.writePtr).state with
      | .opened => { s.capture with buffers := s.capture.buffers.set s.capture.writePtr Buffer.free }
      | .post => afterClosing s.inRun.management s.capture (s.buffer s.capture.writePtr)
      | _ => s.capture := by
  rw [State.parkExit_capture, State.unparked_eq, (hs.inRun hB).rederiveAll]
  split
  · next h => exact State.captureParkExit_opened (s := s.inRun) h
  · next h => exact State.captureParkExit_post (s := s.inRun) rfl h
  · next hopened hpost =>
    rw [State.captureParkExit_idle (s := s.inRun) (fun h => h.elim hopened hpost)]
    rfl

end Sys2Proof.Machine

open Sys2Proof Sys2Proof.Machine Sys2Proof.Claims

/-- Settles O23: the request is answered on the part after its Park Exit, which is told block by block. -/
theorem parkExitWakesTheBody : Obligations.ParkExitWakesTheBody := by
  refine ⟨fun s tag args hs hpark => ⟨_, exec_parkExit_park hs tag args hpark, ?_⟩,
    fun s tag args hs => ⟨fun hpark => ⟨_, exec_parkEnter_park hs tag args hpark, rfl⟩,
      fun hrun => ⟨_, exec_parkExit_run hs tag args hrun, rfl⟩⟩⟩
  have hB : ((taken s).port Port.B).active = true := by rw [taken_port, if_pos rfl]; exact hs.1
  have hfixed : (taken s).parkExit.fixed = (taken s).inRun.fixed := (taken s).parkExit_fixed
  have hasleep := fun d => State.parkExit_dom_of_asleep (s := taken s) (d := d)
  have hwinding := fun d => State.parkExit_dom_of_winding (s := taken s) (d := d)
  have hstays := fun d => State.parkExit_dom_of_stays (s := taken s) (d := d)
  have hcauses := (taken s).parkExit_causes
  have hbuffer := State.parkExit_buffer (s := taken s)
  have hcapture := fun hfollow : s.PortsFollow => State.parkExit_capture_of_follows hfollow.taken hB
  have hactive := (taken s).parkExit_active
  have hframes := (taken s).parkExit_frames Port.B
  have haccount := (taken s).parkExit_account
  generalize (taken s).parkExit = t at hfixed hasleep hwinding hstays hcauses hbuffer hcapture hactive hframes haccount ⊢
  have hmanagement : t.management = (taken s).inRun.management := State.management_of_fixed hfixed
  refine ⟨hmanagement, fun d => ⟨fun henabled hst => ?_, fun henabled hst => ?_, fun hst => ?_⟩, hcauses, hbuffer,
    fun hfollow => ?_, (answered_active t _ _).trans hactive, fun hroom => ?_, haccount, congrArg Fixed.engine hfixed,
    congrArg Fixed.contributions hfixed, congrArg Fixed.lineUnit hfixed, congrArg Fixed.timerUnit hfixed,
    congrArg Fixed.pointer hfixed, congrArg Fixed.timeBase hfixed, congrArg Fixed.pending hfixed⟩
  · have hrecord := hasleep d henabled hst
    exact ⟨congrArg DomainRec.state hrecord, congrArg DomainRec.wakeClass hrecord, congrArg DomainRec.retriesUsed hrecord⟩
  · obtain ⟨n, hrecord⟩ := hwinding d henabled hst
    exact ⟨congrArg DomainRec.state hrecord, congrArg DomainRec.wakeClass hrecord, congrArg DomainRec.windTimer hrecord,
      congrArg DomainRec.sleepReason hrecord⟩
  · exact hstays d (exits_eq_false_iff.mpr hst)
  · rw [show (answered t [0x05, tag, 0]).management = (taken s).inRun.management from hmanagement]
    exact hcapture hfollow
  · have hplace : (t.port Port.B).frameEntries < 24 := by
      rw [hframes, taken_port, if_pos rfl]
      exact hroom
    have hid : t.responseId = s.responseId := by
      rw [State.responseId, State.requestId, hmanagement]
      rfl
    rw [answered_getLast hplace, hid]

end

section
/-! The Charge Account through a command (O9, O10): what every command keeps of the tier, of the classes that the tier serves,
and of the tokens. The shared operations come first; each keeps all three. -/

namespace Sys2Proof.Machine

open Sys2Proof.Claims

variable {g : Prop} {s t u : State} {d : Domain}

/-! ### The invariants, domain by domain -/

/-- A domain that is QUEUED, POWERING or AWAKE holds a class, and in PARK one that the tier admits (R98, R126, R127). -/
def DomainRec.Served (r : DomainRec) (m : Mode) (k : Tier) : Prop :=
  r.state.sheddable = true → ∃ c, r.wakeClass = some c ∧ (m = .park → k.admits c = true)

/-- Every domain is served by the tier held. -/
def State.Served (s : State) : Prop := ∀ d : Domain, (s.dom d).Served s.mode s.account.tier

/-- Every domain that a shedding can take holds a class (R98). -/
def State.Classed (s : State) : Prop := ∀ d : Domain, (s.dom d).state.sheddable = true → (s.dom d).wakeClass.isSome = true

/-- The part of `State.TokensFit` that speaks of one domain (R133 to R136). -/
def TokenRec.Fits (k : TokenRec) (cap : Nat) : Prop := k.tokens ≤ cap ∧ (k.countdown.isSome = true → k.tokens < cap)

theorem DomainState.standing_of_sheddable {st : DomainState} (h : st.sheddable = true) : st.standing = true := by
  cases st with
  | queued | powering | awake => rfl
  | asleep | winding | fault => cases h

theorem State.served_of_shedComplete (hclasses : s.ClassesFit) (h : s.ShedComplete) : s.Served := fun d hst => by
  obtain ⟨c, hc⟩ := Option.isSome_iff_exists.mp ((hclasses d).trans (DomainState.standing_of_sheddable hst))
  refine ⟨c, hc, fun hp => ?_⟩
  simpa [DomainRec.selectedBy, hst, hc] using h hp d

theorem State.Served.shedComplete (h : s.Served) : s.ShedComplete := fun hp d => by
  by_cases hst : (s.dom d).state.sheddable = true
  · obtain ⟨c, hc, hadmits⟩ := h d hst
    simp [DomainRec.selectedBy, hc, hadmits hp]
  · simp [DomainRec.selectedBy, hst]

theorem State.Served.classed (h : s.Served) : s.Classed := fun d hst => by
  obtain ⟨c, hc, -⟩ := h d hst
  rw [hc]
  rfl

theorem DomainRec.served_of_not_sheddable {r : DomainRec} (h : r.state.sheddable = false) (m : Mode) (k : Tier) :
    r.Served m k := fun hst => absurd hst (Bool.eq_false_iff.mp h)

/-- A higher tier serves the classes that a lower one serves (R125, R126). -/
theorem Tier.admits_of_depth_le {k k' : Tier} {c : WakeClass} (h : k'.depth ≤ k.depth) (hk : k.admits c = true) :
    k'.admits c = true := by
  simp only [Tier.admits, decide_eq_true_eq] at hk ⊢
  omega

/-! ### What is kept -/

/-- What one command, or a part of one, keeps of the account: in PARK the prescribed tier, the served domains, and the tokens
within their caps. The guard `g` is needed where a slot is granted, which finds a QUEUED domain only in a state whose wait
queue fits. -/
structure State.ChargeStep (g : Prop) (s t : State) : Prop where
  tier   : s.TierFits ∧ s.account.spent ≤ Config.chargeMax → t.TierFits ∧ t.account.spent ≤ Config.chargeMax
  served : g → s.Served → t.Served
  tokens : s.TokensFit → t.TokensFit

namespace State.ChargeStep

theorem refl (s : State) : State.ChargeStep g s s := ⟨id, fun _ => id, id⟩

theorem trans (h : State.ChargeStep g s t) (k : State.ChargeStep g t u) : State.ChargeStep g s u :=
  ⟨k.tier ∘ h.tier, fun hg => k.served hg ∘ h.served hg, k.tokens ∘ h.tokens⟩

theorem ite {c : Prop} [Decidable c] (ht : c → State.ChargeStep g s t) (hu : ¬c → State.ChargeStep g s u) :
    State.ChargeStep g s (if c then t else u) := by
  split
  · next h => exact ht h
  · next h => exact hu h

theorem foldl {α : Type} {f : State → α → State} (hf : ∀ s a, State.ChargeStep g s (f s a)) (l : List α) (s : State) :
    State.ChargeStep g s (l.foldl f s) := by
  induction l generalizing s with
  | nil => exact refl s
  | cons a l ih => exact (hf s a).trans (ih _)

theorem eachDomain {f : State → Domain → State} (hf : ∀ s d, State.ChargeStep g s (f s d)) (s : State) :
    State.ChargeStep g s (s.eachDomain f) := foldl hf _ s

/-- A change of domains and tokens that leaves the mode and the rest of the account. -/
theorem kept (mode : t.mode = s.mode) (account : t.account = { s.account with tokens := t.account.tokens })
    (served : g → ∀ d, (s.dom d).Served s.mode s.account.tier → (t.dom d).Served s.mode s.account.tier)
    (tokens : ∀ d, (s.tokens d).Fits (s.dom d).params.tokenCap → (t.tokens d).Fits (t.dom d).params.tokenCap) :
    State.ChargeStep g s t where
  tier h := by
    rw [account]
    refine ⟨fun hp => ?_, h.2⟩
    rw [account]
    exact h.1 (mode.symm.trans hp)
  served hg h d := by
    rw [mode, account]
    exact served hg d (h d)
  tokens h d := tokens d (h d)

/-- A change that leaves the mode, the account and the domains. -/
theorem same (mode : t.mode = s.mode) (account : t.account = s.account) (domains : t.domains = s.domains) :
    State.ChargeStep g s t :=
  kept mode (by rw [account]) (fun _ d h => by rw [State.dom_of_domains domains]; exact h)
    (fun d h => by rw [State.tokens, account, State.dom_of_domains domains]; exact h)

/-- A change of one domain that leaves its token cap. -/
theorem domain (mode : t.mode = s.mode) (account : t.account = s.account) (others : ∀ e, e ≠ d → t.dom e = s.dom e)
    (cap : (t.dom d).params.tokenCap = (s.dom d).params.tokenCap)
    (served : g → (s.dom d).Served s.mode s.account.tier → (t.dom d).Served s.mode s.account.tier) : State.ChargeStep g s t := by
  refine kept mode (by rw [account]) (fun hg e h => ?_) (fun e h => ?_)
  · by_cases he : e = d
    · subst he; exact served hg h
    · rw [others e he]; exact h
  · rw [State.tokens, account]
    by_cases he : e = d
    · subst he; rw [cap]; exact h
    · rw [others e he]; exact h

theorem updDom (s : State) (d : Domain) {f : DomainRec → DomainRec}
    (cap : (f (s.dom d)).params.tokenCap = (s.dom d).params.tokenCap)
    (served : g → (s.dom d).Served s.mode s.account.tier → (f (s.dom d)).Served s.mode s.account.tier) :
    State.ChargeStep g s (s.updDom d f) :=
  domain (d := d) rfl rfl (fun _ he => s.dom_updDom_ne f he) (by rw [State.dom_updDom_self]; exact cap)
    (fun hg h => by rw [State.dom_updDom_self]; exact served hg h)

/-- A change of the tokens of one domain. -/
theorem updTokens (s : State) (d : Domain) {f : TokenRec → TokenRec}
    (fits : (s.tokens d).Fits (s.dom d).params.tokenCap → (f (s.tokens d)).Fits (s.dom d).params.tokenCap) :
    State.ChargeStep g s (s.updTokens d f) := by
  refine kept rfl rfl (fun _ _ h => h) (fun e h => ?_)
  rw [State.dom_updTokens]
  by_cases he : e = d
  · subst he; rw [State.tokens_updTokens_self]; exact fits h
  · rw [State.tokens_updTokens_ne _ _ he]; exact h

/-- A change that the notices of the domains alone see. -/
theorem notice (h : s.NoticeFrame t) : State.ChargeStep g s t := by
  refine kept (State.mode_of_fixed h.fixed) (by rw [h.account]) (fun _ d hd => ?_) (fun d hd => ?_)
  · rw [h.dom d]; exact hd
  · rw [State.tokens, h.account, h.dom d]; exact hd

end State.ChargeStep

/-! ### Transitions of a domain (R77 to R99) -/

theorem State.chargeStep_switchOff (s : State) (d : Domain) {st : DomainState} (hst : st = .asleep ∨ st = .fault)
    {f : DomainRec → DomainRec} (hf : (f (s.dom d)).params = (s.dom d).params) : s.ChargeStep g (s.switchOff d st f) := by
  obtain ⟨n, hoff⟩ := s.switchOff_dom_self d hst f
  refine .domain (d := d) (State.mode_of_fixed (by simp)) (by simp) (fun e he => s.switchOff_dom_ne he st f) ?_ (fun _ _ => ?_)
  · rw [hoff]
    exact congrArg DomainParams.tokenCap hf
  · rw [hoff]
    exact DomainRec.served_of_not_sheddable (by rcases hst with rfl | rfl <;> rfl) _ _

theorem State.chargeStep_enterWinding (s : State) (d : Domain) (r : SleepReason) : s.ChargeStep g (s.enterWinding d r) := by
  obtain ⟨n, w, hwound⟩ := s.enterWinding_dom_self d r
  refine .domain (d := d) (State.mode_of_fixed (by simp)) (by simp) (fun e he => s.enterWinding_dom_ne he r) ?_ (fun _ _ => ?_)
  · rw [hwound]
    rfl
  · rw [hwound]
    exact DomainRec.served_of_not_sheddable rfl _ _

/-- A domain that becomes ready keeps its class (R79, R98). -/
theorem State.chargeStep_becomeReady (h : (s.dom d).state = .powering) : s.ChargeStep g (s.becomeReady d) := by
  obtain ⟨⟨b, hready⟩, -, -, -, hothers⟩ := s.becomeReady_spec d
  refine .domain (d := d) (State.mode_of_fixed (by simp)) (by simp) (fun e he => (hothers e he).1) ?_ (fun _ hserved => ?_)
  · rw [hready]
    rfl
  · rw [hready]
    exact fun _ => hserved (by rw [h]; rfl)

theorem State.chargeStep_releaseSlot (s : State) (d : Domain) : s.ChargeStep g (s.releaseSlot d) :=
  ChargeStep.trans (t := s.updSlots (fun a => { a with holders := a.holders.set d none })) (.same rfl rfl rfl)
    (.updDom _ d rfl (fun _ h => h))

theorem State.chargeStep_startWind (s : State) (d : Domain) : s.ChargeStep g (s.updDom d DomainRec.startWind) :=
  .notice (s.noticeFrame_startWind d)

/-! ### Wake requests (R131, R132, R135) -/

/-- A request of a class above 0 that is admitted in PARK has passed the tier and the token (R131). -/
theorem State.judge_admitted_of_park {c : WakeClass} (h : s.judge d c = .admitted) (hp : s.mode = .park) (hc : c ≠ 0) :
    s.account.tier.admits c = true ∧ (s.tokens d).tokens ≠ 0 := by
  simp only [State.judge, hp, if_neg hc, reduceCtorEq, if_false] at h
  split_ifs at h with _ _ _ htier htokens
  exact ⟨by simpa using htier, htokens⟩

/-- A request that consumes a token finds one (R131, R135). -/
theorem State.tokens_ne_zero_of_consumes {c : WakeClass} (h : s.consumes c (s.judge d c) = true) :
    (s.tokens d).tokens ≠ 0 := by
  simp only [State.consumes, Bool.and_eq_true, beq_iff_eq, bne_iff_ne] at h
  obtain ⟨⟨hjudge, hp⟩, hc⟩ := h
  exact (State.judge_admitted_of_park hjudge hp hc).2

/-- A request that is admitted in PARK has a class that the tier admits; every tier admits class 0 (R126, R131). -/
theorem State.admits_of_judge {c : WakeClass} (h : s.judge d c = .admitted) (hp : s.mode = .park) :
    s.account.tier.admits c = true := by
  by_cases hc : c = 0
  · subst hc
    cases s.account.tier <;> rfl
  · exact (State.judge_admitted_of_park h hp hc).1

theorem State.consumeToken_fits {cap : Nat} {k : TokenRec} {n : Option Nat} (hk : k.tokens ≠ 0) (h : k.Fits cap) :
    TokenRec.Fits { tokens := k.tokens - 1, countdown := n } cap := by
  obtain ⟨hcap, -⟩ := h
  exact ⟨by dsimp only; omega, fun _ => by dsimp only; omega⟩

theorem State.wakeRequest_account (s : State) (d : Domain) (c : WakeClass) (cause : Cause) :
    (s.wakeRequest d c cause).account =
      (if s.consumes c (s.judge d c) = true then s.consumeToken d else s).account := by
  rw [State.wakeRequest, State.actOn_account, State.writeCause_account]
  unfold State.settleAdmission
  dsimp only
  exact State.ite_keeps State.account (State.trigger_account _ d cause) rfl

/-- A merged request leaves a class that a tier admits where it admitted the class held (R98, R126). -/
theorem Tier.admits_lowered {k : Tier} {h : WakeClass} (hk : k.admits h = true) (c : WakeClass) :
    k.admits (lowered (some h) c) = true := by
  have hle : (lowered (some h) c).val ≤ h.val := by
    rw [lowered]
    split <;> omega
  simp only [Tier.admits, decide_eq_true_eq] at hk ⊢
  omega

/-- A wake request leaves its domain a class that the tier serves: an admission in PARK has one, and a merge does not raise the
class held. -/
theorem State.wakeRequest_served (c : WakeClass) (cause : Cause) (h : (s.dom d).Served s.mode s.account.tier) :
    ((s.wakeRequest d c cause).dom d).Served s.mode s.account.tier := by
  have hself := s.wakeRequest_dom_self d c cause
  rw [afterRequest, ← State.judge_eq] at hself
  cases hjudge : s.judge d c with
  | admitted =>
    rw [hjudge] at hself
    exact fun _ => ⟨c, congrArg Prod.snd hself, State.admits_of_judge hjudge⟩
  | merged =>
    rw [hjudge] at hself
    obtain ⟨hstate, hclass⟩ := Prod.mk.inj hself
    intro hst
    obtain ⟨held, hheld, hadmits⟩ := h (hstate ▸ hst)
    exact ⟨_, hclass, fun hp => by rw [hheld]; exact Tier.admits_lowered (hadmits hp) c⟩
  | _ =>
    rw [hjudge] at hself
    obtain ⟨hstate, hclass⟩ := Prod.mk.inj hself
    rw [DomainRec.Served, hstate, hclass]
    exact h

theorem State.chargeStep_wakeRequest (s : State) (d : Domain) (c : WakeClass) (cause : Cause) :
    s.ChargeStep g (s.wakeRequest d c cause) := by
  have haccount := s.wakeRequest_account d c cause
  have htoken : s.ChargeStep g (if s.consumes c (s.judge d c) = true then s.consumeToken d else s) :=
    .ite (fun h => .updTokens s d (State.consumeToken_fits (State.tokens_ne_zero_of_consumes h))) (fun _ => .refl s)
  have hdomains : (if s.consumes c (s.judge d c) = true then s.consumeToken d else s).domains = s.domains :=
    State.ite_keeps State.domains rfl rfl
  have hmode : (if s.consumes c (s.judge d c) = true then s.consumeToken d else s).mode = s.mode :=
    State.ite_keeps State.mode rfl rfl
  have htier : (if s.consumes c (s.judge d c) = true then s.consumeToken d else s).account.tier = s.account.tier :=
    State.ite_keeps (·.account.tier) rfl rfl
  generalize (if s.consumes c (s.judge d c) = true then s.consumeToken d else s) = v
    at haccount htoken hdomains hmode htier
  obtain ⟨-, -, hparams, -⟩ := State.calm_eq_iff.mp (s.calm_wakeRequest d c cause)
  have hdom := State.dom_of_domains hdomains
  refine htoken.trans (.domain (d := d) ?_ haccount (fun e he => ?_) ?_ (fun _ => ?_))
  · rw [State.mode_of_fixed (s.wakeRequest_fixed d c cause), hmode]
  · rw [s.wakeRequest_dom_ne he, hdom]
  · rw [hparams, hdom]
  · rw [hdom, hmode, htier]
    exact State.wakeRequest_served c cause

/-! ### Sheddings and the tier (R97, R125, R127) -/

theorem State.chargeStep_shedOne (s : State) (d : Domain) : s.ChargeStep g (s.shedOne d) := by
  have hshed : ∀ u : State, u.ChargeStep g (u.shedDomain d) := fun u => by
    unfold State.shedDomain
    split
    · exact u.chargeStep_enterWinding d _
    · exact u.chargeStep_switchOff d (.inl rfl) rfl
    · exact u.chargeStep_switchOff d (.inl rfl) rfl
    · exact .refl u
  unfold State.shedOne
  split
  · exact ChargeStep.trans (t := s.writeCause ..) (.same rfl rfl rfl) (hshed _)
  · exact .refl s

theorem shedState_not_sheddable (st : DomainState) : (shedState st).sheddable = false := by cases st <;> rfl

/-- After a shedding every domain is served, whatever was served before (R127). -/
theorem State.shed_served (h : s.Classed) : s.shed.Served := fun d => by
  obtain ⟨u, hu, hshed⟩ := s.shed_dom d
  rw [State.mode_of_fixed s.shed_fixed, State.shed_account]
  by_cases hd : shedBy s s.account.tier d = true
  · rw [if_pos hd] at hshed
    have hself := (State.shedOne_self (s := u) (d := d) (t := s.account.tier) (by rw [shedBy, hu]; exact hd)).1
    rw [(Prod.mk.inj hshed).1]
    exact DomainRec.served_of_not_sheddable (by rw [hself]; exact shedState_not_sheddable _) _ _
  · rw [if_neg hd] at hshed
    rw [(Prod.mk.inj hshed).1]
    intro hst
    obtain ⟨c, hc⟩ := Option.isSome_iff_exists.mp (h d hst)
    rw [← DomainRec.selectedBy_eq] at hd
    exact ⟨c, hc, fun _ => by simpa [DomainRec.selectedBy, hst, hc] using hd⟩

theorem State.retier_served (h : s.Served) : s.retier.Served := by
  unfold State.retier
  split
  · exact State.shed_served (s := s.setTier) h.classed
  · next hdepth =>
    intro d hst
    obtain ⟨c, hc, hadmits⟩ := h d hst
    exact ⟨c, hc, fun hp => Tier.admits_of_depth_le (Nat.not_lt.mp hdepth) (hadmits hp)⟩

theorem State.shed_tokensFit (h : s.TokensFit) : s.shed.TokensFit :=
  (ChargeStep.foldl (g := False) State.chargeStep_shedOne _ s).tokens h

theorem State.retier_tokensFit (h : s.TokensFit) : s.retier.TokensFit := by
  unfold State.retier
  split
  · exact State.shed_tokensFit (s := s.setTier) h
  · exact h

/-- A change of the charge or the thresholds, after which the tier is recomputed. -/
theorem State.ChargeStep.retier (spent : s.account.spent ≤ Config.chargeMax → t.account.spent ≤ Config.chargeMax)
    (served : g → s.Served → t.Served) (tokens : s.TokensFit → t.TokensFit) : s.ChargeStep g t.retier where
  tier h := by
    rw [State.TierFits, State.retier_account]
    exact ⟨fun _ => rfl, spent h.2⟩
  served hg h := State.retier_served (served hg h)
  tokens h := State.retier_tokensFit (tokens h)

/-! ### Slot grants (R78, R105, R123) -/

theorem Account.addCharge_zero {a : Account} (h : a.spent ≤ Config.chargeMax) : a.addCharge 0 = a := by
  rw [Account.addCharge, Nat.add_zero, Nat.min_eq_right h]

/-- A ramp charge of 0 leaves a charge that has not run past its end. -/
theorem State.chargeStep_addCharge_zero (s : State) : s.ChargeStep g (s.updAccount (fun a => a.addCharge 0)) where
  tier h := by
    rw [State.TierFits, State.updAccount_account, Account.addCharge_zero h.2]
    exact h
  served _ h := h
  tokens h := h

/-- A grant makes a QUEUED domain POWERING at the class that it holds. -/
theorem State.chargeStep_grantTo (h : g → (s.dom d).state = .queued) : s.ChargeStep g (s.grantTo d) := by
  have powering : s.ChargeStep g (((s.updSlots (fun a =>
      { a.leaveQueue d with holders := a.holders.set d (some .powering) })).updDom d
      (fun r => { r with slotHeld := true })).enterState d .powering) := by
    refine .domain (d := d) (State.mode_of_fixed (by simp)) (by simp) (fun e he => ?_) ?_ (fun hg hserved => ?_)
    · rw [State.enterState_dom, if_neg he, State.dom_updDom_ne _ _ he, State.dom_updSlots]
    · rw [State.enterState_dom, if_pos rfl, State.dom_updDom_self, State.dom_updSlots]
    · rw [State.enterState_dom, if_pos rfl, State.dom_updDom_self, State.dom_updSlots]
      exact fun _ => hserved (by rw [h hg]; rfl)
  unfold State.grantTo
  dsimp only
  generalize ((s.updSlots (fun a => { a.leaveQueue d with holders := a.holders.set d (some .powering) })).updDom d
    (fun r => { r with slotHeld := true })).enterState d .powering = v at powering ⊢
  have ready : ∀ w : State, w.ChargeStep g
      (w.updDom d (fun r => { r with retriesUsed := 0, readyTimer := some r.params.readyTimeout })) := fun w =>
    .updDom w d rfl (fun _ hw => hw)
  refine .ite (fun hramp => ?_) (fun hramp => ?_)
  · rw [if_pos hramp.1]
    refine powering.trans (.retier (fun _ => Account.addCharge_le _ _) (fun hg hv => ?_) (fun hv => ?_))
    · exact (ready _).served hg hv
    · exact (ready _).tokens hv
  · refine powering.trans (ChargeStep.trans (.ite (fun hp => ?_) (fun _ => .refl v)) (ready _))
    have hzero : (v.dom d).params.rampCharge = 0 := by simpa [hp] using hramp
    rw [hzero]
    exact v.chargeStep_addCharge_zero

theorem State.chargeStep_grantSlot (h : g → ∀ e ∈ s.slots.queue, (s.dom e.domain).state = .queued) :
    s.ChargeStep g s.grantSlot := by
  refine .ite (fun _ => ?_) (fun _ => .refl s)
  split
  · next e rest hq => exact State.chargeStep_grantTo (fun hg => h hg e (by rw [hq]; exact List.mem_cons_self))
  · exact .refl s

end Sys2Proof.Machine
end

section
/-! Every command keeps the prescribed tier, the served domains and the tokens within their caps (O9, O10). -/

namespace Sys2Proof.Machine

variable {g : Prop} {s t u : State} {d : Domain}

/-! ### Changes that leave the charge alone -/

/-- The mode, the account and the domains. -/
def State.purse (s : State) : Mode × Account × Tab DomainRec 12 := (s.mode, s.account, s.domains)

theorem State.ChargeStep.of_purse (h : t.purse = s.purse) : State.ChargeStep g s t := by
  obtain ⟨hmode, haccount, hdomains⟩ : t.mode = s.mode ∧ t.account = s.account ∧ t.domains = s.domains := by
    simpa [State.purse] using h
  exact .same hmode haccount hdomains

theorem State.ChargeStep.of_fixed (fixed : t.fixed = s.fixed) (account : t.account = s.account)
    (domains : t.domains = s.domains) : State.ChargeStep g s t := .same (State.mode_of_fixed fixed) account domains

theorem State.rederiveAll_purse (s : State) : s.rederiveAll.purse = s.purse :=
  State.foldl_keeps State.purse _ (fun u p => by simp [State.purse, State.mode_of_fixed (u.rederive_fixed p)]) _ s

/-! ### Frames that a domain recognises (R82) -/

theorem State.chargeStep_ignoreFrame (s : State) (d : Domain) : s.ChargeStep g (s.ignoreFrame d) := .updDom s d rfl (fun _ h => h)

theorem State.chargeStep_recognise (s : State) (d : Domain) (i : Ident) : s.ChargeStep g (s.recognise d i) := by
  have fault : s.ChargeStep g (s.faultFrame d) :=
    .ite (fun _ => s.chargeStep_switchOff d (.inr rfl) rfl) (fun _ => s.chargeStep_ignoreFrame d)
  have announce : s.ChargeStep g (if (s.dom d).params.announceId = some i then s.announceFrame d else s) :=
    .ite (fun _ => .ite (fun h => State.chargeStep_becomeReady h.1) (fun _ => s.chargeStep_ignoreFrame d)) (fun _ => .refl s)
  have sleepReady : ∀ u : State, u.ChargeStep g (if (s.dom d).params.sleepReadyId = some i then u.sleepReadyFrame d else u) :=
    fun u => .ite (fun _ => .ite (fun _ => u.chargeStep_switchOff d (.inl rfl) rfl) (fun _ => u.chargeStep_ignoreFrame d))
      (fun _ => .refl u)
  have activity : ∀ u : State, u.ChargeStep g (u.activityFrame d i) :=
    fun u => .ite (fun _ => .updDom u d rfl (fun _ h => h)) (fun _ => .refl u)
  exact .ite (fun _ => fault) (fun _ => (announce.trans (sleepReady _)).trans (activity _))

/-! ### The Match Engine (R24, R31, R32, R34, R51) -/

theorem State.chargeStep_contributeRow (s : State) (i : RowIx) : s.ChargeStep g (s.contributeRow i) := by
  have set : ∀ (k : GroupIx) (l : List Contribution), s.ChargeStep g (s.setContributions k l) := fun _ _ => .same rfl rfl rfl
  unfold State.contributeRow
  split
  · next k _ =>
    exact .ite (fun _ => .ite (fun _ => (set k []).trans (.eachDomain
      (fun u d => .ite (fun _ => u.chargeStep_wakeRequest d _ _) (fun _ => .refl u)) _)) (fun _ => set k _)) (fun _ => .refl s)
  · exact .refl s

theorem State.chargeStep_directWake (s : State) (ixs : List RowIx) (d : Domain) : s.ChargeStep g (s.directWake ixs d) := by
  unfold State.directWake
  dsimp only
  split
  · split
    · exact s.chargeStep_wakeRequest d _ _
    · exact .refl s
  · exact .refl s

theorem State.chargeStep_recogniseRecord (s : State) (r : FrameRecord) : s.ChargeStep g (s.recogniseRecord r) := by
  unfold State.recogniseRecord
  split
  · exact .eachDomain (fun u d => .ite (fun _ => u.chargeStep_recognise d _) (fun _ => .refl u)) s
  · exact .refl s

theorem State.forwardAndRecord_purse (s : State) (ixs : List RowIx) (r : FrameRecord) :
    (s.forwardAndRecord ixs r).purse = s.purse := by
  have hsent : ∀ fs, (s.forwardRecord fs r).purse = s.purse := fun fs =>
    State.foldl_keeps State.purse _ (fun u p => by split <;> rfl) (List.finRange 7) s
  have hrecord : ∀ (u : State) (f : StoredFrame), (u.recordFrame f).purse = u.purse := fun u f =>
    State.ite_keeps State.purse rfl rfl
  unfold State.forwardAndRecord
  dsimp only
  exact State.ite_keeps State.purse ((hrecord _ _).trans (hsent _)) (hsent _)

theorem State.closeIfComplete_purse (s : State) : s.closeIfComplete.purse = s.purse := by
  simp [State.purse, State.mode_of_fixed s.closeIfComplete_fixed]

theorem State.chargeStep_complete (s : State) (r : FrameRecord) : s.ChargeStep g (s.complete r) := by
  have counted : ∀ ixs, ((s.countHits ixs).countUnmatched ixs r).purse = s.purse := fun ixs => by
    unfold State.countUnmatched
    split <;> rfl
  unfold State.complete
  dsimp only
  exact ((((ChargeStep.of_purse (counted _)).trans (State.chargeStep_recogniseRecord _ r)).trans
    (.of_purse (State.forwardAndRecord_purse _ _ r))).trans (.eachDomain (fun u d => u.chargeStep_directWake _ d) _)).trans
      ((ChargeStep.foldl State.chargeStep_contributeRow _ _).trans (.of_purse (State.closeIfComplete_purse _)))

/-! ### What is due (R84, R87, R134) -/

/-- A countdown that runs stands below the cap, so the token that it adds fits (R134). -/
theorem TokenRec.refilled_fits {k : TokenRec} {cap refill : Nat} (hk : k.countdown.isSome = true) (h : k.Fits cap) :
    (k.refilled cap refill).Fits cap := by
  obtain ⟨-, hbelow⟩ := h
  refine ⟨hbelow hk, fun hrun => ?_⟩
  by_contra hfull
  have hstop : (k.refilled cap refill).countdown = none := if_neg hfull
  rw [hstop] at hrun
  cases hrun

theorem State.chargeStep_refillsDueTo (s : State) (d : Domain) : s.ChargeStep g (s.refillsDueTo d) :=
  .ite (fun _ => .foldl (fun u e => .ite
    (fun h => .updTokens u e (TokenRec.refilled_fits (by rw [h.2]; rfl))) (fun _ => .refl u)) _ s) (fun _ => .refl s)

theorem State.chargeStep_windIfIdle (s : State) (d : Domain) : s.ChargeStep g (s.windIfIdle d) :=
  .ite (fun _ => s.chargeStep_enterWinding d _) (fun _ => .refl s)

theorem State.chargeStep_idleDue (s : State) (d : Domain) : s.ChargeStep g (s.idleDue d) :=
  .ite (fun _ => (ChargeStep.updDom s d rfl (fun _ h => h)).trans (State.chargeStep_windIfIdle _ d)) (fun _ => .refl s)

theorem State.chargeStep_minAwakeDue (s : State) (d : Domain) : s.ChargeStep g (s.minAwakeDue d) :=
  .ite (fun _ => (ChargeStep.updDom s d rfl (fun _ h => h)).trans (State.chargeStep_windIfIdle _ d)) (fun _ => .refl s)

theorem State.chargeStep_takeDue (s : State) : s.ChargeStep g s.takeDue := by
  obtain ⟨u, hu⟩ := s.allTimersDue_frame
  have timers : s.ChargeStep g ((List.finRange 8).foldl State.timersDueTo s) := .of_purse (by rw [hu]; rfl)
  exact timers.trans (.eachDomain (fun v d => ((v.chargeStep_refillsDueTo d).trans (State.chargeStep_minAwakeDue _ d)).trans
    (State.chargeStep_idleDue _ d)) _)

/-! ### Time (R122, R125, R134, R166) -/

theorem State.chargeStep_secondFalls (s : State) : s.ChargeStep g s.secondFalls := by
  have hdom : ∀ d, s.secondFalls.dom d = (s.dom d).second := fun d => Tab.get_map _ _ _
  have hsecond : ∀ r : DomainRec, r.second.state = r.state ∧ r.second.wakeClass = r.wakeClass ∧ r.second.params = r.params :=
    fun r => by unfold DomainRec.second; split <;> exact ⟨rfl, rfl, rfl⟩
  refine .kept rfl rfl (fun _ d h => ?_) (fun d h => ?_)
  · obtain ⟨hstate, hclass, -⟩ := hsecond (s.dom d)
    rw [hdom, DomainRec.Served, hstate, hclass]
    exact h
  · obtain ⟨-, -, hparams⟩ := hsecond (s.dom d)
    rw [hdom, hparams]
    exact h

theorem State.chargeStep_second (s : State) : s.ChargeStep g s.second := by
  unfold State.second
  split
  · refine s.chargeStep_secondFalls.trans (.retier (fun _ => Account.addCharge_le _ _) (fun _ h => h) (fun h d => ?_))
    rw [State.tokens, State.updAccount_account, Tab.get_map]
    exact ⟨(h d).1, fun hrun => (h d).2 (Option.isSome_map.symm.trans hrun)⟩
  · exact s.chargeStep_secondFalls

theorem State.chargeStep_tick (s : State) : s.ChargeStep g s.tick := by
  have counts : ∀ u : State, u.ChargeStep g u.expireContributions.countsMs := fun u =>
    .kept rfl rfl (fun _ d h => by rw [State.countsMs_dom]; exact h) (fun d h => by rw [State.countsMs_dom]; exact h)
  exact s.chargeStep_takeDue.trans (counts _)

/-! ### Park transitions and resets (R99, R113, R116, R133, R173) -/

/-- At Park Enter a domain that has a class takes class 3 (R99). -/
theorem State.parkDomain_classed (h : s.Classed) (d : Domain) : (s.parkDomain d).Classed := by
  have written : ∀ f : DomainRec → DomainRec, (∀ r, (f r).wakeClass = some 3) → (s.updDom d f).Classed := fun f hf e => by
    rw [State.dom_updDom]
    split
    · exact fun _ => by rw [hf]; rfl
    · exact h e
  unfold State.parkDomain
  split
  · exact h
  · exact h
  · exact written (fun r => { r with wakeClass := some 3 }) (fun _ => rfl)
  · exact written _ (fun _ => rfl)
  · exact written _ (fun _ => rfl)

theorem State.refillAll_tokensFit (s : State) : (s.eachDomain State.refillAtPark).TokensFit := fun d => by
  obtain ⟨u, hbefore, hafter⟩ := State.eachDomain_at (fun u => (u.tokens d, u.domains)) (f := State.refillAtPark) (d := d)
    (fun u e he => Prod.ext (State.tokens_updTokens_ne _ _ he.symm) rfl) s
  obtain ⟨htokens, hdomains⟩ := Prod.mk.inj hafter
  rw [htokens, State.dom_of_domains hdomains, State.refillAtPark, State.tokens_updTokens_self, State.dom_updTokens]
  exact ⟨Nat.le_refl _, fun h => nomatch h⟩

/-- The tier taken anew with a shedding at every tier (R114, R127). -/
theorem State.ChargeStep.resettle (spent : t.account.spent ≤ Config.chargeMax) (classed : s.Served → t.Classed)
    (tokens : t.TokensFit) : State.ChargeStep g s t.setTier.shed where
  tier _ := by
    rw [State.TierFits, State.shed_account]
    exact ⟨fun _ => rfl, spent⟩
  served _ h := State.shed_served (s := t.setTier) (classed h)
  tokens _ := State.shed_tokensFit (s := t.setTier) tokens

theorem State.chargeStep_parkEnter (s : State) : s.ChargeStep g s.parkEnter := by
  have hderived := ({ s with management := { s.management with mode := .park } } : State).rederiveAll_purse
  unfold State.parkEnter
  dsimp only
  generalize ({ s with management := { s.management with mode := .park } } : State).rederiveAll = v at hderived ⊢
  have hclassed : s.Served → v.Classed := fun h d => by
    rw [State.dom_of_domains (congrArg (fun x => x.2.2) hderived)]
    exact h.classed d
  have hparked : s.Served →
      (({ v with management := { v.management with epoch := v.management.epoch + 1 } } : State).eachDomain
        State.parkDomain).Classed := fun h =>
    List.foldlRecOn (motive := State.Classed) _ _ (hclassed h) (fun _ hw d _ => State.parkDomain_classed hw d)
  generalize ({ v with management := { v.management with epoch := v.management.epoch + 1 } } : State).eachDomain
    State.parkDomain = w at hparked ⊢
  have hspent := State.eachDomain_keeps (·.account.spent) State.refillAtPark (fun _ _ => rfl)
    (w.updAccount (fun a => { a with spent := 0 }))
  have hdomains := State.eachDomain_keeps State.domains State.refillAtPark (fun _ _ => rfl)
    (w.updAccount (fun a => { a with spent := 0 }))
  have hsettled : s.ChargeStep g
      (((w.updAccount (fun a => { a with spent := 0 })).eachDomain State.refillAtPark).setTier.shed) :=
    .resettle (hspent.trans_le (Nat.zero_le _)) (fun h d => by rw [State.dom_of_domains hdomains]; exact hparked h d)
      (State.refillAll_tokensFit _)
  exact hsettled.trans (.of_fixed (by simp) (by simp) (by simp))

/-- A change to RUN, where no tier and no class is called for. -/
theorem State.chargeStep_run (s : State) :
    s.ChargeStep g { s with management := { s.management with mode := .run } } where
  tier h := ⟨fun hp => (nomatch hp), h.2⟩
  served _ h d hst := by
    obtain ⟨c, hc, -⟩ := h d hst
    exact ⟨c, hc, fun hp => (nomatch hp)⟩
  tokens h := h

theorem State.chargeStep_parkExit (s : State) : s.ChargeStep g s.parkExit := by
  have exits : ∀ (u : State) (d : Domain), u.ChargeStep g (u.exitWake d) := fun u d =>
    .ite (fun _ => u.chargeStep_wakeRequest d _ _) (fun _ => .refl u)
  unfold State.parkExit
  dsimp only
  exact ((s.chargeStep_run.trans (.of_purse (State.rederiveAll_purse _))).trans
    (.of_fixed (State.captureParkExit_fixed _) (State.captureParkExit_account _) (State.captureParkExit_domains _))).trans
      (.eachDomain exits _)

theorem State.chargeStep_reset (s : State) {m : Management} (hm : m.mode = .run) (n : Nat) (cs : List Instr) :
    s.ChargeStep g (State.blocksAtReset m n cs).resetWake := by
  have hdom : ∀ d, (State.blocksAtReset m n cs).dom d = DomainRec.atReset d := fun d => Tab.get_ofFn _ _
  have htokens : ∀ d, (State.blocksAtReset m n cs).tokens d = { tokens := 4, countdown := none } := fun d =>
    Tab.get_replicate _ _
  have reset : s.ChargeStep g (State.blocksAtReset m n cs) :=
    { tier := fun _ => ⟨fun hp => (nomatch hm.symm.trans hp), Nat.zero_le _⟩
      served := fun _ _ d => by rw [hdom]; exact DomainRec.served_of_not_sheddable rfl _ _
      tokens := fun _ d => by rw [htokens, hdom]; exact ⟨Nat.le_refl 4, fun h => nomatch h⟩ }
  exact reset.trans (State.chargeStep_wakeRequest _ _ _ _)

theorem State.chargeStep_managementReset (s : State) : s.ChargeStep g s.managementReset := s.chargeStep_reset rfl _ _

/-! ### Lines (R57 to R61) -/

theorem State.chargeStep_sampleLine (s : State) (l : LineIx) (v : Bool) : s.ChargeStep g (s.sampleLine l v) := by
  have accept : ∀ u : State, u.ChargeStep g (u.acceptChange l v) := fun u => by
    unfold State.acceptChange
    split
    · exact .refl u
    · exact .ite (fun _ => .of_purse (State.ite_keeps State.purse rfl rfl)) (fun _ => .refl u)
    · exact .ite (fun _ => u.chargeStep_parkExit) (fun _ => .refl u)
  exact .ite (fun _ => ChargeStep.trans (t := s.updLine l (fun r => r.sampled v)) (.of_purse rfl) (accept _))
    (fun _ => .of_purse rfl)

theorem State.chargeStep_sample (s : State) (levels : BitVec 16) : s.ChargeStep g (s.sample levels) := by
  have lines : s.ChargeStep g ((List.finRange 16).foldl (fun u l => u.sampleLine l (levels.getLsbD l.val)) s) :=
    .foldl (fun u l => u.chargeStep_sampleLine l _) _ s
  unfold State.sample
  dsimp only
  generalize (List.finRange 16).foldl (fun u l => u.sampleLine l (levels.getLsbD l.val)) s = v at lines ⊢
  exact lines.trans (.of_purse rfl)

/-! ### Transmission (R14, R89, R91, R172) -/

theorem State.chargeStep_accountEnd (s : State) (p : Port) (b : Bool) (o : TxOutcome) : s.ChargeStep g (s.accountEnd p b o) := by
  have wind : ∀ u : State, u.ChargeStep g (u.windOnBlocked p) := fun u =>
    .eachDomain (fun v d => .ite (fun _ => v.chargeStep_startWind d) (fun _ => .refl v)) u
  cases o with
  | success => exact .of_purse (State.ite_keeps State.purse rfl rfl)
  | lostArbitration => exact .refl s
  | failure =>
    exact .ite (fun _ => .of_purse rfl) (fun _ => ChargeStep.trans (t := s.updPort p PortUnit.fail) (.of_purse rfl)
      (.ite (fun _ => wind _) (fun _ => .refl _)))

theorem State.chargeStep_endQueueAttempt (s : State) (p : Port) (b : Bool) (o : TxOutcome) :
    s.ChargeStep g (s.endQueueAttempt p b o) := by
  have dropped : s.ChargeStep g (s.dropHead p) := .of_purse rfl
  have settled : ∀ d k sent, s.ChargeStep g ((s.dropHead p).settleNotice d k sent) := fun d k sent =>
    dropped.trans (.notice (State.noticeFrame_settleNotice _ d k sent))
  unfold State.endQueueAttempt
  split
  · exact .refl s
  · unfold State.entrySent
    split
    · exact .ite (fun _ => dropped.trans (State.chargeStep_managementReset _)) (fun _ => dropped)
    · exact .ite (fun _ => settled _ _ _) (fun _ => dropped.trans (.notice (State.noticeFrame_noticeSent _ _ _)))
  · exact .ite (fun _ => settled _ _ _) (fun _ => .refl s)
  · exact .refl s

theorem State.chargeStep_endAttempt (s : State) (p : Port) (a : Attempt) (o : TxOutcome) : s.ChargeStep g (s.endAttempt p a o) := by
  have ended : s.ChargeStep g ((s.updPort p (fun u => { u with attempt := none })).accountEnd p a.detached o) :=
    ChargeStep.trans (t := s.updPort p (fun u => { u with attempt := none })) (.of_purse rfl)
      (State.chargeStep_accountEnd _ p a.detached o)
  unfold State.endAttempt
  dsimp only
  split
  · exact ended.trans (State.chargeStep_endQueueAttempt _ p a.removal o)
  · exact ended.trans (.of_fixed (by simp) (by simp) (by simp))

end Sys2Proof.Machine
end

section
/-! The requests of the Management Unit on the charge, every command and every step, and O9 and O10. -/

namespace Sys2Proof.Machine

variable {g : Prop} {s t u : State} {d : Domain}

/-! ### Set Domain Parameter (R74, R76, R136) -/

/-- The tokens after a change of the cap (R136). -/
theorem TokenRec.capChange_fits {k : TokenRec} {old : Nat} (h : k.Fits old) (new refill : Nat) (m : Mode) :
    (k.capChange old new refill m).Fits new := by
  obtain ⟨hcap, hrun⟩ := h
  unfold TokenRec.capChange
  split
  · split
    · exact ⟨Nat.le_refl _, fun h => nomatch h⟩
    · split
      · next heq => exact ⟨heq.ge, fun h => nomatch h⟩
      · next hlt hne => exact ⟨by omega, fun _ => by omega⟩
  · next hnot =>
    have hle : old ≤ new := Nat.not_lt.mp hnot
    split
    · next hstart => exact ⟨hstart.2.2.2.le, fun _ => hstart.2.2.2⟩
    · exact ⟨hcap.trans hle, fun h => (hrun h).trans_le hle⟩

theorem State.chargeStep_setParams (s : State) (d : Domain) (new : DomainParams) :
    s.ChargeStep g (s.setParams d (s.dom d).params new) := by
  unfold State.setParams
  dsimp only
  have written : ∀ e, (s.updDom d (fun r => { r with params := new })).dom e =
      if e = d then { s.dom e with params := new } else s.dom e := fun e => s.dom_updDom d e _
  have hstep : ∃ v : State, (if (s.dom d).params.enabled && !new.enabled then
        (s.updDom d (fun r => { r with params := new })).disable d
      else s.updDom d (fun r => { r with params := new })) = v ∧ v.mode = s.mode ∧ v.account = s.account ∧
      (∀ e, e ≠ d → v.dom e = s.dom e) ∧ (v.dom d).params = new ∧
      ∀ m k, (s.dom d).Served m k → (v.dom d).Served m k := by
    refine ⟨_, rfl, ?_⟩
    split
    · obtain ⟨n, hoff⟩ := State.switchOff_dom_self (s.updDom d (fun r => { r with params := new })) d (.inl rfl)
        DomainRec.stopAll
      rw [written, if_pos rfl] at hoff
      refine ⟨State.mode_of_fixed (by simp), by simp, fun e he => ?_, ?_, fun m k _ => ?_⟩
      · rw [State.disable, State.switchOff_dom_ne _ he, written, if_neg he]
      · rw [State.disable, hoff]
        rfl
      · rw [State.disable, hoff]
        exact DomainRec.served_of_not_sheddable rfl _ _
    · refine ⟨rfl, rfl, fun e he => ?_, ?_, fun m k h => ?_⟩
      · rw [written, if_neg he]
      · rw [written, if_pos rfl]
      · rw [written, if_pos rfl]
        exact h
  obtain ⟨v, hv, hmode, haccount, hothers, hparams, hserved⟩ := hstep
  rw [hv]
  refine .kept hmode (by rw [← haccount]; rfl) (fun _ e h => ?_) (fun e h => ?_)
  · rw [State.dom_updTokens]
    by_cases he : e = d
    · subst he
      exact hserved _ _ h
    · rw [hothers e he]
      exact h
  · rw [State.dom_updTokens]
    by_cases he : e = d
    · subst he
      rw [State.tokens_updTokens_self, State.tokens, haccount, hparams]
      exact TokenRec.capChange_fits h _ _ _
    · rw [State.tokens_updTokens_ne _ _ he, State.tokens, haccount, hothers e he]
      exact h

theorem chargeStep_answerSetDomainParameter (args : List Byte) (u : State) :
    u.ChargeStep g (answerSetDomainParameter args u).1 := by
  unfold answerSetDomainParameter
  dsimp only
  split
  · exact .refl u
  · split
    · exact .refl u
    · split
      · exact .refl u
      · split
        · exact .refl u
        · exact u.chargeStep_setParams _ _

/-! ### The other requests on domains, and Set Budget (R94 to R96, R108, R121) -/

theorem chargeStep_answerDomainWake (args : List Byte) (u : State) : u.ChargeStep g (answerDomainWake args u).1 := by
  unfold answerDomainWake
  split
  · exact (u.chargeStep_wakeRequest _ _ _).trans (.of_purse (State.closeIfComplete_purse _))
  · exact .refl u
  · exact .refl u
  · exact .refl u

theorem chargeStep_answerDomainSleep (args : List Byte) (u : State) : u.ChargeStep g (answerDomainSleep args u).1 := by
  unfold answerDomainSleep
  split
  · exact .refl u
  · split
    · exact .refl u
    · exact u.chargeStep_switchOff _ (.inl rfl) rfl
    · exact u.chargeStep_switchOff _ (.inl rfl) rfl
    · exact u.chargeStep_enterWinding _ _
    · exact .refl u
    · exact .refl u

theorem chargeStep_answerDomainClearFault (args : List Byte) (u : State) : u.ChargeStep g (answerDomainClearFault args u).1 := by
  unfold answerDomainClearFault
  split
  · exact .refl u
  · split
    · exact u.chargeStep_switchOff _ (.inl rfl) rfl
    · exact .refl u

/-- In RUN the settings may differ from the tier; in PARK the tier is recomputed (R121). -/
theorem chargeStep_answerSetBudget (args : List Byte) (u : State) : u.ChargeStep g (answerSetBudget args u).1 := by
  refine .ite (c := u.mode = .park) (fun _ => ?_) (fun hrun => ?_)
  · exact .retier id (fun _ h => h) id
  · exact ⟨fun h => ⟨fun hp => absurd hp hrun, h.2⟩, fun _ h => h, id⟩

theorem chargeStep_answerParkEnter (u : State) : u.ChargeStep g (answerParkEnter u).1 := by
  unfold answerParkEnter
  split
  · dsimp only
    exact u.chargeStep_parkEnter
  · exact .refl u

theorem chargeStep_answerParkExit (u : State) : u.ChargeStep g (answerParkExit u).1 := by
  unfold answerParkExit
  split
  · dsimp only
    exact u.chargeStep_parkExit
  · exact .refl u

/-! ### Requests that leave the charge alone -/

theorem answerInjectFrame_purse (args : List Byte) (u : State) : (answerInjectFrame args u).1.purse = u.purse := by
  unfold answerInjectFrame
  (repeat' split) <;> rfl

theorem answerTableWriteDisable_purse (u : State) : (answerTableWriteDisable u).1.purse = u.purse := by
  unfold answerTableWriteDisable
  split <;> rfl

theorem answerStageRow_purse (part : Option (Row → Row)) (args : List Byte) (u : State) :
    (answerStageRow part args u).1.purse = u.purse := by
  unfold answerStageRow
  (repeat' split) <;> rfl

theorem answerStageGroup_purse (args : List Byte) (u : State) : (answerStageGroup args u).1.purse = u.purse := by
  unfold answerStageGroup
  (repeat' split) <;> rfl

theorem State.commitIfReady_purse (u : State) : u.commitIfReady.purse = u.purse := State.ite_keeps State.purse rfl rfl

theorem manageCommitTable_purse (tag : Byte) (args : List Byte) (u : State) : (manageCommitTable tag args u).purse = u.purse := by
  unfold manageCommitTable
  dsimp only
  split
  · rfl
  · exact State.commitIfReady_purse _

theorem answerSetProtectBoundary_purse (args : List Byte) (u : State) :
    (answerSetProtectBoundary args u).1.purse = u.purse := by
  unfold answerSetProtectBoundary
  dsimp only
  (repeat' split) <;> rfl

theorem answerSetSlots_purse (args : List Byte) (u : State) : (answerSetSlots args u).1.purse = u.purse := by
  unfold answerSetSlots
  dsimp only
  split <;> rfl

theorem manageTakeCauses_purse (tag : Byte) (args : List Byte) (u : State) : (manageTakeCauses tag args u).purse = u.purse := by
  have taken : ∀ (v : State) (n : Nat), (v.takeCauses tag n).purse = v.purse := fun v n => by
    unfold State.takeCauses
    dsimp only
    split
    · rfl
    · exact State.foldl_keeps State.purse State.sendCause (fun _ _ => rfl) _ _
  unfold manageTakeCauses
  dsimp only
  split
  · rfl
  · split
    · rfl
    · exact taken _ _

theorem answerSetCaptureMode_purse (args : List Byte) (u : State) : (answerSetCaptureMode args u).1.purse = u.purse := by
  unfold answerSetCaptureMode
  (repeat' split) <;> rfl

theorem answerReleaseCapture_purse (u : State) : (answerReleaseCapture u).1.purse = u.purse := by
  unfold answerReleaseCapture
  dsimp only
  split <;> rfl

theorem answerConfigureLine_purse (args : List Byte) (u : State) : (answerConfigureLine args u).1.purse = u.purse := by
  unfold answerConfigureLine
  (repeat' split) <;> rfl

theorem answerReadLines_purse (args : List Byte) (u : State) : (answerReadLines args u).1.purse = u.purse := by
  unfold answerReadLines
  split <;> rfl

theorem answerConfigureTimer_purse (args : List Byte) (u : State) : (answerConfigureTimer args u).1.purse = u.purse := by
  unfold answerConfigureTimer
  (repeat' split) <;> rfl

theorem answerStartTimer_purse (args : List Byte) (u : State) : (answerStartTimer args u).1.purse = u.purse := by
  unfold answerStartTimer
  split <;> rfl

theorem answerStopTimer_purse (args : List Byte) (u : State) : (answerStopTimer args u).1.purse = u.purse := by
  unfold answerStopTimer
  split <;> rfl

theorem answerReadPortStatus_purse (args : List Byte) (u : State) : (answerReadPortStatus args u).1.purse = u.purse := by
  unfold answerReadPortStatus
  split
  · rfl
  · split
    · rfl
    · exact State.ite_keeps State.purse rfl rfl

theorem manageUnknown_purse (data : List Byte) (u : State) : (manageUnknown data u).purse = u.purse := by
  unfold manageUnknown
  dsimp only
  split <;> rfl

/-! ### The Management Unit (R162 to R164, R172) -/

theorem chargeStep_manageReset (tag : Byte) (args : List Byte) (u : State) : u.ChargeStep g (manageReset tag args u) := by
  unfold manageReset
  dsimp only
  split
  · split
    · exact .of_purse rfl
    · exact State.ChargeStep.trans (t := u.resetWaiting.updPort Port.B _) (.of_purse rfl) (State.chargeStep_managementReset _)
  · exact .of_purse rfl

theorem chargeStep_manage {code tag : Byte} {args : List Byte} {n : Nat} {body : State → State × Answer}
    (hb : ∀ u : State, u.ChargeStep g (body u).1) (u : State) : u.ChargeStep g (u.manage code tag args n body) := by
  have prepared : u.ChargeStep g (u.setPrepared false) := .of_purse rfl
  unfold State.manage
  dsimp only
  split
  · exact .of_purse rfl
  · exact (prepared.trans (hb _)).trans (.of_purse rfl)

theorem chargeStep_manageData (data : List Byte) (u : State) : u.ChargeStep g (manageData data u) := by
  have keeps : ∀ {code tag : Byte} {args : List Byte} {n : Nat} {body : State → State × Answer},
      (∀ v : State, (body v).1.purse = v.purse) → u.ChargeStep g (u.manage code tag args n body) :=
    fun h => chargeStep_manage (fun v => .of_purse (h v)) u
  have reads : ∀ {code tag : Byte} {args : List Byte} {n : Nat} {body : State → State × Answer},
      (∀ v : State, (body v).1 = v) → u.ChargeStep g (u.manage code tag args n body) := fun h => keeps (fun v => by rw [h])
  unfold manageData
  cases decodeRequest data with
  | identify tag args => exact reads (fun _ => rfl)
  | readStatus tag args => exact reads (fun v => readAnswer_fst _ v)
  | setClock tag args => exact keeps (fun _ => rfl)
  | injectFrame tag args => exact keeps (answerInjectFrame_purse args)
  | resetPrepare tag args => exact .of_purse rfl
  | reset tag args => exact chargeStep_manageReset tag args u
  | parkEnter tag args => exact chargeStep_manage chargeStep_answerParkEnter u
  | parkExit tag args => exact chargeStep_manage chargeStep_answerParkExit u
  | tableWriteEnable tag args => exact keeps (fun _ => rfl)
  | tableWriteDisable tag args => exact keeps answerTableWriteDisable_purse
  | stageRowMatch tag args => exact keeps (answerStageRow_purse _ args)
  | stageRowDataTest tag args => exact keeps (answerStageRow_purse _ args)
  | stageRowAction tag args => exact keeps (answerStageRow_purse _ args)
  | stageRowWakeSet tag args => exact keeps (answerStageRow_purse _ args)
  | stageGroup tag args => exact keeps (answerStageGroup_purse args)
  | commitTable tag args => exact .of_purse (manageCommitTable_purse tag args u)
  | readRowPart tag args => exact reads (answerReadRowPart_fst args)
  | readHits tag args => exact reads (fun v => readAnswer_fst _ v)
  | setProtectBoundary tag args => exact keeps (answerSetProtectBoundary_purse args)
  | setDomainParameter tag args => exact chargeStep_manage (chargeStep_answerSetDomainParameter args) u
  | readDomain tag args => exact reads (answerReadDomain_fst args)
  | domainWake tag args => exact chargeStep_manage (chargeStep_answerDomainWake args) u
  | domainSleep tag args => exact chargeStep_manage (chargeStep_answerDomainSleep args) u
  | domainClearFault tag args => exact chargeStep_manage (chargeStep_answerDomainClearFault args) u
  | setSlots tag args => exact keeps (answerSetSlots_purse args)
  | setBudget tag args => exact chargeStep_manage (chargeStep_answerSetBudget args) u
  | readAccount tag args => exact reads (fun v => readAnswer_fst _ v)
  | takeCauses tag args => exact .of_purse (manageTakeCauses_purse tag args u)
  | setCaptureMode tag args => exact keeps (answerSetCaptureMode_purse args)
  | readCaptureDescriptor tag args => exact reads (answerReadCaptureDescriptor_fst args)
  | readCaptureFrame tag args => exact reads (answerReadCaptureFrame_fst args)
  | releaseCapture tag args => exact keeps answerReleaseCapture_purse
  | configureLine tag args => exact keeps (answerConfigureLine_purse args)
  | readLines tag args => exact keeps (answerReadLines_purse args)
  | configureTimer tag args => exact keeps (answerConfigureTimer_purse args)
  | startTimer tag args => exact keeps (answerStartTimer_purse args)
  | stopTimer tag args => exact keeps (answerStopTimer_purse args)
  | readPortStatus tag args => exact keeps (answerReadPortStatus_purse args)
  | _ => exact .of_purse (manageUnknown_purse data u)

theorem State.chargeStep_requestFrame (s : State) (data : List Byte) :
    s.ChargeStep g (s.requestFrame data (manageData data)) := by
  have heard : s.ChargeStep g (s.frameHeard Port.B PortUnit.countReceived) := .of_purse rfl
  exact .ite (fun _ => .ite (fun _ => heard) (fun _ => heard.trans (chargeStep_manageData data _)))
    (fun _ => heard.trans (.of_purse rfl))

/-! ### Every command, and every step -/

theorem State.chargeStep_readyExpires (h : (s.dom d).state = .powering) : s.ChargeStep g (s.readyExpires d) := by
  have recorded : s.ChargeStep g (s.recordFailure d) := .of_purse (by unfold State.recordFailure; split <;> rfl)
  unfold State.readyExpires
  split
  · exact State.chargeStep_becomeReady h
  · exact .ite (fun _ => .updDom s d rfl (fun _ h => h))
      (fun _ => recorded.trans (State.chargeStep_switchOff _ d (.inr rfl) rfl))

theorem State.grantMatch_purse (s : State) : s.grantMatch.purse = s.purse := by
  unfold State.grantMatch
  split
  · rfl
  · split
    · next i _ =>
      rcases s.dropOldest_cases i with ⟨_, hd⟩ | ⟨-, hd⟩ | ⟨-, hd⟩ | ⟨-, hd⟩ <;> rw [hd] <;> rfl
    · rfl

/-- Every command keeps the tier, the served domains and the tokens; a slot is granted to a QUEUED domain. -/
theorem exec_chargeStep (hq : g → ∀ e ∈ s.slots.queue, (s.dom e.domain).state = .queued) {i : Instr}
    (h : exec i s = .next t) : s.ChargeStep g t := by
  cases hb : requestBytes i with
  | some bytes =>
    obtain ⟨data, hexec⟩ := exec_request hb s
    obtain rfl := Host.Outcome.next.inj (hexec.symm.trans h)
    exact s.chargeStep_requestFrame data
  | none =>
    cases i with
    | powerOnReset strap =>
      cases h
      exact s.chargeStep_reset rfl _ _
    | resetDeadlineExpiry =>
      simp only [exec, execResetDeadlineExpiry] at h
      split at h <;> cases h
      · exact s.chargeStep_managementReset
      · exact .refl s
    | frameTaken p f =>
      cases f with
      | data i code bytes =>
        simp only [exec, execFrameTaken] at h
        split at h <;> cases h
        · exact s.chargeStep_requestFrame _
        · exact .of_purse rfl
      | _ =>
        cases h
        exact .of_purse rfl
    | commitCompletion =>
      cases h
      exact .of_purse s.commitIfReady_purse
    | matchGrant =>
      cases h
      exact .of_purse s.grantMatch_purse
    | evaluationCompletion =>
      simp only [exec, execEvaluationCompletion] at h
      split at h <;> cases h
      · exact State.ChargeStep.trans (t := s.idleEngine) (.of_purse rfl) (State.chargeStep_complete _ _)
      · exact .refl s
    | slotGrant =>
      cases h
      exact State.chargeStep_grantSlot hq
    | readyTimerExpiry d =>
      simp only [exec, execReadyTimerExpiry] at h
      split at h
      · next hst =>
        cases h
        exact State.chargeStep_readyExpires hst.1
      · cases h
        exact .refl s
    | holdExpiry d =>
      simp only [exec, execHoldExpiry] at h
      split at h <;> cases h
      · exact s.chargeStep_releaseSlot d
      · exact .refl s
    | idleExpiry d =>
      cases h
      exact s.chargeStep_idleDue d
    | minAwakeElapse d =>
      cases h
      exact s.chargeStep_minAwakeDue d
    | windExpiry d =>
      simp only [exec, execWindExpiry] at h
      split at h <;> cases h
      · exact State.ChargeStep.trans (.updDom s d rfl (fun _ h => h)) (State.chargeStep_switchOff _ d (.inl rfl) rfl)
      · exact .refl s
    | transmissionStart p =>
      have start : ∀ u : State, u.ChargeStep g (u.startQueue p) := fun u => .of_purse (State.ite_keeps State.purse rfl rfl)
      simp only [exec, execTransmissionStart] at h
      split at h
      · split at h
        · cases h
          exact start s
        · split at h <;> cases h
          · exact .of_purse rfl
          · exact State.ChargeStep.trans (t := s.endReplay p _) (.of_purse rfl) (start _)
      · cases h
        exact .refl s
    | transmissionEnd p o =>
      simp only [exec, execTransmissionEnd] at h
      split at h <;> cases h
      · exact s.chargeStep_endAttempt p _ o
      · exact .refl s
    | recoveryTimerExpiry p =>
      simp only [exec, execRecoveryTimerExpiry] at h
      split at h <;> cases h <;> exact .of_purse rfl
    | replayStart p =>
      simp only [exec, execReplayStart] at h
      split at h <;> cases h <;> exact .of_purse rfl
    | bufferFree =>
      simp only [exec, execBufferFree] at h
      split at h <;> cases h
      · exact .of_fixed (by simp) (by simp) (by simp)
      · exact .refl s
    | contributionExpiry i n =>
      simp only [exec, execContributionExpiry] at h
      split at h <;> cases h <;> exact .of_purse rfl
    | lineSample levels =>
      simp only [exec, execLineSample, Host.Outcome.next.injEq] at h
      subst h
      exact s.chargeStep_sample levels
    | parkSecond =>
      simp only [exec, execParkSecond, Host.Outcome.next.injEq] at h
      subst h
      exact s.chargeStep_takeDue.trans (State.chargeStep_second _)
    | refillExpiry d =>
      cases h
      exact s.chargeStep_refillsDueTo d
    | timerExpiry k =>
      cases h
      obtain ⟨v, hv⟩ := s.timersDueTo_frame k
      exact .of_purse (by rw [hv]; rfl)
    | _ => cases hb

theorem step_chargeStep (hq : g → ∀ e ∈ s.slots.queue, (s.dom e.domain).state = .queued) (h : step s = .next t) :
    s.ChargeStep g t := by
  unfold step at h
  split at h
  · next c rest _ =>
    exact State.ChargeStep.trans (t := s.withPending rest) (.of_purse rfl) (exec_chargeStep (s := s.withPending rest) hq h)
  · obtain rfl : s.tick = t := Host.Outcome.next.inj h
    exact s.chargeStep_tick

end Sys2Proof.Machine

open Sys2Proof Sys2Proof.Machine

/-- Settles O9: every step keeps the prescribed tier, and the served domains where slots are granted to QUEUED domains. -/
theorem theTierIsPrescribedAndShedComplete : Obligations.TheTierIsPrescribedAndShedComplete := by
  refine ⟨fun s t htier hspent h => (step_chargeStep False.elim h).tier ⟨htier, hspent⟩,
    fun s t hclasses _ hqueue hshed h => ?_⟩
  obtain ⟨hqueued, -, -⟩ := hqueue
  have step := step_chargeStep (g := True) (fun _ e he => (hqueued e.domain).mp ⟨e, he, rfl⟩) h
  exact (step.served trivial (State.served_of_shedComplete hclasses hshed)).shedComplete

/-- Settles O10: every step keeps the tokens of each domain within its cap. -/
theorem tokensStayWithinTheirCap : Obligations.TokensStayWithinTheirCap := fun _ _ htokens h =>
  (step_chargeStep False.elim h).tokens htokens

end

section
/-! Read Account (O40). -/

namespace Sys2Proof.Machine

open Sys2Proof.Claims

variable {s u : State} {tag part b3 b4 : Byte}

theorem readAccount_completes (hs : Executes s) {data : List Byte}
    (h : accountBytes (taken s) part.toNat b3.toNat b4.toNat = some data) :
    Completes (exec (.readAccount tag [part, b3, b4]) s) (· = answered (taken s) (0x21 :: tag :: 0 :: data)) := by
  refine ⟨_, takeRequest_answered hs (Nat.le_refl 3) (fun _ => rfl), ?_⟩
  rw [show answerReadAccount (frameArgs [part, b3, b4]) (taken s) = (taken s, .okay data) from congrArg (readAnswer _) h]
  rfl

theorem readAccount_index (hs : Executes s) (h : accountBytes (taken s) part.toNat b3.toNat b4.toNat = none) :
    Completes (exec (.readAccount tag [part, b3, b4]) s) (· = answered (taken s) [0x21, tag, 3]) := by
  refine ⟨_, takeRequest_answered hs (Nat.le_refl 3) (fun _ => rfl), ?_⟩
  rw [show answerReadAccount (frameArgs [part, b3, b4]) (taken s) = (taken s, .bare .index) from congrArg (readAnswer _) h]
  rfl

/-- The draw of one second, domain by domain (R122). -/
theorem State.draw_eq (u : State) : u.draw = drawOf u := by
  rw [State.draw, Tab.items_eq_map, List.map_map, drawOf]
  exact congrArg (fun l => u.account.baseDraw + List.sum l) (List.map_congr_left fun d _ => DomainRec.draw_eq (u.dom d))

theorem accountBytes_tokens (u : State) (d : Domain) (page : Nat) :
    accountBytes u 4 d.val page = some ([BitVec.ofNat 8 (u.tokens d).tokens, BitVec.ofNat 8 (u.dom d).params.tokenCap] ++
      beBytes 3 (((u.tokens d).countdown.map shown).getD 0)) := by
  rw [accountBytes, asDomain_val, funext secondsLeft_eq_shown]
  rfl

/-- No part above 4, and no page above 1 of part 3 (R137). -/
theorem accountBytes_none {n page : Nat} (h : 4 < n ∨ (n = 3 ∧ 1 < page)) (domain : Nat) :
    accountBytes u n domain page = none := by
  match n, page with
  | 0, _ | 1, _ | 2, _ | 4, _ | 3, 0 | 3, 1 => omega
  | 3, _ + 2 => rfl
  | _ + 5, _ => rfl

end Sys2Proof.Machine

open Sys2Proof Sys2Proof.Machine Sys2Proof.Claims

/-- Settles O40, by the part. -/
theorem readAccountReportsItsPart : Obligations.ReadAccountReportsItsPart := by
  refine fun s tag b3 b4 hs => ⟨readAccount_completes hs ?_, readAccount_completes hs rfl, readAccount_completes hs ?_,
    readAccount_completes hs ?_, readAccount_completes hs ?_, fun d hd => readAccount_completes hs ?_,
    fun h => readAccount_index hs ?_, fun part h => readAccount_index hs (accountBytes_none h _)⟩
  · rw [← beBytes_two]
    rfl
  · rw [← beBytes_two]
    rfl
  · rw [← beBytes_two]
    rfl
  · exact congrArg (fun n => some (beBytes 4 n)) (taken s).draw_eq
  · rw [← hd]
    exact accountBytes_tokens (taken s) d _
  · exact congrArg (Option.map _) (asDomain_of_le h)

end

section
/-! Take Causes (O41): the response and the cause frames, one behind the other in B's forward queue. -/

namespace Sys2Proof.Machine

open Sys2Proof.Claims

variable {s u : State} {tag : Byte}

/-! ### A cause frame (R161, R179) -/

/-- The upper and the lower half of a 32-bit value (R174). -/
theorem beBytes_four (n : Nat) : beBytes 4 n = two (n / 65536) ++ two (n % 65536) := by
  have high : (BitVec.ofNat 8 (n / 65536 / 256) : Byte) = BitVec.ofNat 8 (n / 16777216) := by rw [Nat.div_div_eq_div_mul]
  have third : (BitVec.ofNat 8 (n % 65536 / 256) : Byte) = BitVec.ofNat 8 (n / 256) :=
    BitVec.eq_of_toNat_eq (by simp only [BitVec.toNat_ofNat]; omega)
  have low : (BitVec.ofNat 8 (n % 65536) : Byte) = BitVec.ofNat 8 n :=
    BitVec.eq_of_toNat_eq (by simp only [BitVec.toNat_ofNat]; omega)
  rw [two, two, high, third, low]
  simp [beBytes]

theorem causeBytes_eq (r : CauseRecord) : causeBytes r = causeFrame r := by
  have hcause : (causeKindCode r.cause, causeIndex r.cause) = causeNumbers r.cause := by cases r.cause <;> rfl
  have houtcome : wakeOutcomeCode r.outcome = outcomeNumber r.outcome := by cases r.outcome <;> rfl
  rw [causeBytes, causeFrame, beBytes_four, ← hcause, houtcome]
  rfl

theorem State.causeId_eq (s : State) : s.causeId = BitVec.ofNat 11 (0x702 + 4 * s.management.strap.toNat) := by
  unfold State.causeId State.requestId
  generalize s.management.strap = strap
  revert strap
  decide

/-! ### Frames appended at B (R11, R140) -/

/-- The state with frame entries at the tail of B's forward queue. -/
def State.appended (s : State) (l : List FwdEntry) : State :=
  onPort s Port.B { s.port Port.B with fwd := (s.port Port.B).fwd ++ l }

/-- The entry of a cause frame. -/
def State.causeEntry (s : State) (r : CauseRecord) : FwdEntry :=
  .frame (BitVec.ofNat 11 (0x702 + 4 * s.management.strap.toNat)) (causeFrame r) false

theorem State.appended_nil (s : State) : s.appended [] = s := by
  rw [State.appended, List.append_nil]
  exact onPort_self s Port.B

theorem State.appended_appended (s : State) (l k : List FwdEntry) : (s.appended l).appended k = s.appended (l ++ k) := by
  rw [State.appended, State.appended, onPort_port_self, onPort_onPort, List.append_assoc]
  rfl

/-- A frame entry that finds a place is appended, and takes it. -/
theorem offered_of_lt {p : PortUnit} {e : FwdEntry} (h : p.frameEntries < 24) : offered p e = { p with fwd := p.fwd ++ [e] } :=
  if_pos h

theorem State.appended_frame (s : State) {e : FwdEntry} (he : e.isFrame = true) :
    ((s.appended [e]).port Port.B).frameEntries = (s.port Port.B).frameEntries + 1 := by
  rw [State.appended, onPort_port_self, PortUnit.frameEntries, List.countP_append, List.countP_singleton, if_pos he]
  rfl

theorem State.answered_eq_appended (h : (s.port Port.B).frameEntries < 24) (bytes : List Byte) :
    answered s bytes = s.appended [.frame s.responseId bytes false] := congrArg (onPort s Port.B) (offered_of_lt h)

theorem State.sendCause_eq (h : (s.port Port.B).frameEntries < 24) (r : CauseRecord) :
    s.sendCause r = s.appended [s.causeEntry r] := by
  rw [State.sendCause, State.causeId_eq, causeBytes_eq, State.updPort_eq_onPort]
  exact congrArg (onPort s Port.B) (offered_of_lt h)

/-- While there are places, each record sends its frame behind those before it. -/
theorem State.foldl_sendCause (l : List CauseRecord) (s : State) (h : (s.port Port.B).frameEntries + l.length ≤ 24) :
    l.foldl State.sendCause s = s.appended (l.map s.causeEntry) := by
  induction l generalizing s with
  | nil => exact s.appended_nil.symm
  | cons r l ih =>
    rw [List.length_cons] at h
    have hsent := s.appended_frame (e := s.causeEntry r) rfl
    rw [List.foldl_cons, State.sendCause_eq (by omega), ih _ (by omega), State.appended_appended]
    rfl

/-- The state once B has taken a request, with frame entries appended. -/
theorem taken_appended (s : State) (l : List FwdEntry) :
    (taken s).appended l =
      { onPort s Port.B { heardUnit (s.port Port.B) with fwd := (s.port Port.B).fwd ++ l } with
        management := { s.management with prepared := false } } := by
  rw [State.appended, taken_port, if_pos rfl]
  exact onPort_onPort (s.setPrepared false) Port.B (heardUnit (s.port Port.B)) _

/-! ### The request -/

theorem State.dropCauses_port (s : State) (m : Nat) (p : Port) : (s.dropCauses m).port p = s.port p := rfl

theorem execTakeCauses_next (hs : Executes s) (n : Byte) (rest : List Byte) :
    exec (.takeCauses tag (n :: rest)) s = .next
      (if n.toNat = 0 ∨ 32 < n.toNat then answered (taken s) [0x22, tag, 4] else (taken s).takeCauses tag n.toNat) := by
  refine (takeRequest_next s 0x22 tag _ manageTakeCauses hs.1 hs.2).trans (congrArg _ ?_)
  rw [manageTakeCauses, State.heard_setPrepared]
  rfl

theorem State.takeCauses_full (h : 24 ≤ (s.port Port.B).frameEntries) (n : Nat) :
    s.takeCauses tag n = answered s [0x22, tag, 0] := if_pos (Nat.sub_eq_zero_of_le h)

/-- With a place free the response takes one, and each record taken another. -/
theorem State.takeCauses_eq (h : (s.port Port.B).frameEntries < 24) (n : Nat) {m : Nat}
    (hm : m = min n (min s.causes.records.length (24 - (s.port Port.B).frameEntries - 1))) :
    s.takeCauses tag n =
      (s.appended (.frame s.responseId [0x22, tag, 0, BitVec.ofNat 8 m, BitVec.ofNat 8 (s.causes.records.length - m),
        BitVec.ofNat 8 s.causes.overflow] false :: (s.causes.records.take m).map s.causeEntry)).dropCauses m := by
  have hfree : s.freePlaces ≠ 0 := Nat.sub_ne_zero_of_lt h
  obtain rfl : m = s.causesTaken n := hm
  have hlength : (s.causes.records.take (s.causesTaken n)).length ≤ 24 - (s.port Port.B).frameEntries - 1 :=
    (List.length_take_le _ _).trans ((Nat.min_le_right _ _).trans (Nat.min_le_right _ _))
  rw [State.takeCauses, if_neg hfree]
  dsimp only
  rw [State.respond_eq_answered, State.answered_eq_appended h]
  have hplaces := fun bytes => s.appended_frame (e := .frame s.responseId bytes false) rfl
  rw [State.foldl_sendCause _ _ (by rw [State.dropCauses_port, hplaces]; omega)]
  exact congrArg (fun u : State => u.dropCauses (s.causesTaken n)) (s.appended_appended [_] _)

end Sys2Proof.Machine

open Sys2Proof Sys2Proof.Machine Sys2Proof.Claims

/-- Settles O41, by the places that B's forward queue has free. -/
theorem takeCausesSendsTheOldestRecords : Obligations.TakeCausesSendsTheOldestRecords := by
  intro s tag n rest hs
  refine ⟨_, execTakeCauses_next hs n rest, ?_⟩
  have hport : (taken s).port Port.B = heardUnit (s.port Port.B) := (taken_port s Port.B).trans (if_pos rfl)
  have hframes : ((taken s).port Port.B).frameEntries = (s.port Port.B).frameEntries := by rw [hport]; rfl
  dsimp only
  split
  · rfl
  · split
    · next hfull =>
      rw [State.takeCauses_full (hframes.symm ▸ hfull), answered, onPort_port_self, offered,
        if_neg (by rw [hframes]; omega), hport]
      exact ⟨rfl, rfl, rfl⟩
    · next hplace =>
      rw [State.takeCauses_eq (m := min n.toNat (min s.causes.records.length (24 - (s.port Port.B).frameEntries - 1)))
        (by omega) n.toNat (by rw [hframes]; rfl), taken_appended]
      rfl

end

section
/-! Set Budget (O39): the settings, and in PARK the tier taken anew with its shedding. -/

namespace Sys2Proof.Machine

open Sys2Proof.Claims

variable {s : State} {tag : Byte}

/-! ### A shedding keeps the frame entries of every port (R12, R97) -/

theorem State.shedDomain_frames (s : State) (d : Domain) (p : Port) :
    ((s.shedDomain d).port p).frameEntries = (s.port p).frameEntries := by
  unfold State.shedDomain
  split
  · exact (s.spares_enterWinding d _).frames p
  · exact s.switchOff_frames d _ _ p
  · exact s.switchOff_frames d _ _ p
  · rfl

theorem State.shedOne_frames (s : State) (d : Domain) (p : Port) :
    ((s.shedOne d).port p).frameEntries = (s.port p).frameEntries := by
  unfold State.shedOne
  split
  · exact State.shedDomain_frames _ d p
  · rfl

theorem State.retier_frames (s : State) (p : Port) : (s.retier.port p).frameEntries = (s.port p).frameEntries := by
  unfold State.retier
  split
  · exact State.foldl_keeps (fun u => (u.port p).frameEntries) _ (fun u d => u.shedOne_frames d p) _ s.setTier
  · rfl

/-! ### The settings (R121, R177) -/

/-- The argument bytes of a Set Budget (R177). -/
def budgetArgs (budget base : BitVec 16) (b4 b5 : Byte) : List Byte := two budget.toNat ++ [b4, b5] ++ two base.toNat

/-- The two bytes of a 16-bit value give it back (R174). -/
theorem two_toNat (w : BitVec 16) :
    (BitVec.ofNat 8 (w.toNat / 256) : Byte).toNat * 256 + (BitVec.ofNat 8 w.toNat : Byte).toNat = w.toNat := by
  simp only [BitVec.toNat_ofNat]
  omega

/-- The state with the settings of a Set Budget written. -/
def State.budgeted (s : State) (budget base : BitVec 16) (b4 b5 : Byte) : State :=
  { s with account := s.account.withSettings budget.toNat b4.toNat b5.toNat base.toNat }

/-- The settings, their thresholds in the claims' words. -/
theorem Account.withSettings_eq (a : Account) (budget t1 t2 ib : Nat) :
    a.withSettings budget t1 t2 ib = { a with
      budget := budget, upper := intoRange 1 99 t1
      lower := if intoRange 1 99 t1 ≤ t2 then intoRange 1 99 t1 - 1 else t2, baseDraw := ib } := by
  rw [Account.withSettings, clampTo_eq (by omega)]
  rfl

/-- The response to a Set Budget that leaves the account `a` (R177). -/
def budgetResponse (tag b4 b5 : Byte) (a : Account) : List Byte :=
  [0x20, tag, if a.upper = b4.toNat ∧ a.lower = b5.toNat then 0 else 1, BitVec.ofNat 8 a.upper, BitVec.ofNat 8 a.lower,
    tierCode a.tier] ++ two a.budget

/-- The bytes of an answer that is OK or CLAMPED (R164). -/
theorem responseBytes_clamped (code tag : Byte) (c : Prop) [Decidable c] (data : List Byte) :
    responseBytes code tag { reply := if c then .ok else .clamped, data := data } =
      code :: tag :: (if c then 0 else 1) :: data := by
  split <;> rfl

/-- Set Budget writes the settings, and in PARK takes the tier anew (R121). -/
theorem execSetBudget_next (hs : Executes s) (budget base : BitVec 16) (b4 b5 : Byte) {t : State}
    (ht : t = if s.mode = .park then ((taken s).budgeted budget base b4 b5).retier else (taken s).budgeted budget base b4 b5) :
    exec (.setBudget tag (budgetArgs budget base b4 b5)) s = .next (answered t (budgetResponse tag b4 b5 t.account)) := by
  have hbudget : argWord (frameArgs (budgetArgs budget base b4 b5)) 2 = budget.toNat := two_toNat budget
  have hbase : argWord (frameArgs (budgetArgs budget base b4 b5)) 6 = base.toNat := two_toNat base
  refine (takeRequest_answered hs (Nat.le_refl 6) (fun _ => rfl)).trans (congrArg Host.Outcome.next ?_)
  rw [answerSetBudget, hbudget, hbase, responseBytes_clamped, beBytes_two, ht]
  rfl

end Sys2Proof.Machine

open Sys2Proof Sys2Proof.Machine Sys2Proof.Claims

/-- Settles O39, by the mode: in PARK the tier is taken anew on the new settings. -/
theorem setBudgetWritesTheSettingsAndShedsInPark : Obligations.SetBudgetWritesTheSettingsAndShedsInPark := by
  refine ⟨fun s tag budget base b4 b5 hs hrun => ⟨_, execSetBudget_next hs budget base b4 b5 rfl, ?_⟩,
    fun s tag budget base b4 b5 hs hpark => ⟨_, execSetBudget_next hs budget base b4 b5 rfl, ?_⟩⟩
  · rw [if_neg (by rw [hrun]; exact fun h => nomatch h), State.budgeted, Account.withSettings_eq]
    rfl
  · rw [if_pos hpark]
    have hretier : Retiered (taken s) s.management.clock _ ((taken s).budgeted budget base b4 b5).retier :=
      State.retier_retiered rfl
    have hframes := State.retier_frames ((taken s).budgeted budget base b4 b5) Port.B
    have hmanagement := State.management_of_fixed (State.retier_fixed (s := (taken s).budgeted budget base b4 b5))
    rw [Account.withSettings_eq, Account.prescribedTier_eq] at hretier
    generalize ((taken s).budgeted budget base b4 b5).retier = t at hretier hframes hmanagement ⊢
    obtain ⟨haccount, hup, hdown⟩ := hretier
    refine ⟨haccount, fun hlower => ?_, fun hnotLower => ?_, fun hroom => ?_⟩
    · obtain ⟨hdomains, hcauses, -⟩ := hdown hlower
      refine ⟨fun d => ?_, fun d => ?_, hcauses⟩
      · obtain ⟨hstate, -, -⟩ := hdomains d
        exact hstate
      · obtain ⟨-, hreason, -⟩ := hdomains d
        exact hreason
    · obtain rfl := hup hnotLower
      exact ⟨fun _ => rfl, rfl⟩
    · have hplace : (t.port Port.B).frameEntries < 24 := by
        rw [hframes]
        exact (congrArg PortUnit.frameEntries ((taken_port s Port.B).trans (if_pos rfl))).trans_lt hroom
      have hid : t.responseId = s.responseId := by
        rw [State.responseId, State.requestId, hmanagement]
        rfl
      rw [answered_getLast hplace, hid, haccount]
      rfl

end
